-- ==== Sys2Proof/Word.lean ====
section
/-! DEFINITION. The words of the Gelmar 2400: bytes and texts (spec 11, R206), timers, and saturating counters. -/

namespace Sys2Proof

/-- One byte: a character code, a field byte, a byte of a frame, block, order or record (R206). -/
abbrev Byte := BitVec 8

/-- A text: its character codes in order (R206). -/
abbrev Text := List Byte

/-- One of the part's own timers: `none` when stopped, otherwise the milliseconds left (spec 00, "Time"). -/
abbrev Timer := Option Nat

/-- The character code of one of the part's own characters (R206 lists them; they are the ASCII codes). -/
def code (c : Char) : Byte := BitVec.ofNat 8 c.toNat

/-- A text the part writes on its own account. -/
def text (t : String) : Text := t.toList.map code

/-- The blank character, code 32 (R94). -/
def space : Byte := 32

end Sys2Proof
end

