-- ==== Sys2Proof/Config.lean ====
section
/-! DEFINITION. What the Gelmar 2400 as built fixes (the figures of spec 00 and the durations of the chapters), and the
values the spec leaves open, as constants without a body. -/

namespace Sys2Proof.Config

/-- Entries the journal holds (spec 00, R157). -/
def journalCapacity : Nat := 16384
/-- The number of entries whose writing sets the warning state on (R163). -/
def journalWarning : Nat := 15360
/-- Pending passbook lines the store holds (R139). -/
def storeCapacity : Nat := 2048
/-- Stored blocks the receive block queue holds (R24). -/
def receiveCapacity : Nat := 8
/-- Blocks the data queue holds (R33). -/
def dataCapacity : Nat := 16
/-- Blocks the control queue holds (R33). -/
def controlCapacity : Nat := 4
/-- Non-forward entries of the outstanding request table (R47). -/
def stationEntries : Nat := 28
/-- Forward entries of the outstanding request table (R47). -/
def forwardEntries : Nat := 4
/-- The longest block body (R21). -/
def maxBody : Nat := 1024
/-- Alerts a station's queue holds (R108). -/
def alertCapacity : Nat := 4
/-- The largest amount of a transaction (R43, R71). -/
def maxAmount : Nat := 99999999999
/-- The largest total, position and limit (R69, R80). -/
def maxTotal : Nat := 999999999999999
/-- The largest count of one denomination in a drawer (R69). -/
def maxPieces : Nat := 9999999
/-- The largest magnitude of a pending line's amount (R139). -/
def maxLineAmount : Nat := 999999999999999999
/-- The limit of every status counter (R36, R63, R113, R132, R154, R189, R205). -/
def counterLimit : Nat := 65535
/-- Bytes of an end-of-day segment after its header (R176). -/
def segmentBytes : Nat := 512
/-- Segments sent and unacknowledged at most (R180). -/
def sendWindow : Nat := 4
/-- Acknowledgement timer expiries that fail a send attempt (R186). -/
def sendRetries : Nat := 8
/-- Bytes of the settings memory (R200). -/
def settingsBytes : Nat := 32768

/-- Milliseconds of the part's timers. -/
def attemptMs : Nat := 5000
def syncOfferMs : Nat := 250
def keepAliveMs : Nat := 2000
def silenceMs : Nat := 10000
def recoveryMs : Nat := 5000
def holdMs : Nat := 60000
/-- Two good SYNCs no further apart than this make the link UP (R28). -/
def syncPairMs : Nat := 1000
def selectMs : Nat := 50
def phaseStepMs : Nat := 2000
def resetPulseMs : Nat := 10
def retryMs : Nat := 250
def readyWaitMs : Nat := 10000
def pollMs : Nat := 500
def ackMs : Nat := 4000
def writeMs : Nat := 100
def saveMs : Nat := 3000

/-- FREE VALUE (assumption 14): how many bytes of a block had been put on the line when it was broken off. R34 says the
rest of the block is sent as fill; it does not say where the break falls. The argument counts the breaks. -/
opaque breakOffPoint : Nat → Nat

end Sys2Proof.Config
end

