-- ==== Sys2Proof/Syntax.lean ====
section
/-! DEFINITION. The commands of the Gelmar 2400: one constructor for each row of spec/opcode_table.json, in the table's
order. An operand is what arrives from outside the part with the command; what the part already holds is read from the
state (assumption 6). -/

namespace Sys2Proof

/-- One character of the station loop as it arrives (R1): its mark bit, its data bits, and whether its stop bit is at mark. -/
structure LoopChar where
  marked : Bool
  data   : Byte
  stopOk : Bool
  deriving DecidableEq, Repr

/-- The tag of a request or reply (R21, R46): a station number (0 for a forward entry) and a sequence number. -/
structure Tag where
  station  : Nat
  sequence : Nat
  deriving DecidableEq, Repr, Inhabited

/-- What the settings memory answers to a read (assumption 12): what it holds, or other bytes
(a memory that was changed, replaced or has failed). -/
inductive MemoryAnswer where
  | asHeld
  | other (bytes : List Byte)
  deriving DecidableEq, Repr

/-- The commands, one for each row of the table of operations and events (spec 95). -/
inductive Instr where
  /-- VISIT. R6. The loop scheduler comes to the next station address. -/
  | visit
  /-- NIL. R8. A NIL answer with its station report byte. -/
  | nil (report : Byte)
  /-- REQ. R8, R41. A REQ answer: its station report byte and its request body. -/
  | req (report : Byte) (body : List Byte)
  /-- ALERT_ACK. R110. An ALERT ACK answer with its station report byte. -/
  | alertAck (report : Byte)
  /-- TEST_ECHO. R17. A TEST ECHO answer: its station report byte and the body echoed. -/
  | testEcho (report : Byte) (body : List Byte)
  /-- UNUSABLE_ANSWER. R3, R9. The characters of an answer that is not good, as they arrived. -/
  | unusableAnswer (chars : List LoopChar)
  /-- ANSWER_TIMEOUT. R3. No start bit within 1 ms of the end of the frame. -/
  | answerTimeout
  /-- ANSWER_MARK_TIMEOUT. R3. The line stays at mark for the time of 4 characters during or after an answer. -/
  | answerMarkTimeout
  /-- CARRIER_PRESENT. R28, R207. CARRIER becomes asserted. -/
  | carrierPresent
  /-- CARRIER_LOST. R27, R207. CARRIER becomes released. -/
  | carrierLost
  /-- BLOCK_COMPLETE. R23. The bytes of a received block, from its class to its check sequence, and the time (ms of the part's timer) at which it became complete (R28). -/
  | blockComplete (bytes : List Byte) (time : Nat)
  /-- BAD_BLOCK. R25, R26. The classifier takes a block that is discarded. -/
  | badBlock
  /-- SYNC. R28. The classifier takes a good SYNC. -/
  | sync
  /-- ATTEMPT_TIMER. R29. The 5 s attempt timer expires. -/
  | attemptTimer
  /-- SYNC_OFFER. R28, R31. The 250 ms period ends. -/
  | syncOffer
  /-- KEEP_ALIVE. R30. The 2 s keep-alive period ends. -/
  | keepAlive
  /-- SILENCE_TIMER. R30. The 10 s silence timer expires. -/
  | silenceTimer
  /-- RECOVERY_LIMIT. R31. The 5 s RECOVERY limit expires. -/
  | recoveryLimit
  /-- HOLD. R32. The classifier takes a good HOLD. -/
  | hold
  /-- RELEASE. R32. The classifier takes a good RELEASE. -/
  | release
  /-- HOLD_TIMER. R32. The 60 s hold timer expires. -/
  | holdTimer
  /-- TRANSMIT_START. R34. The free transmitter chooses the next block. -/
  | transmitStart
  /-- BLOCK_LEFT_TRANSMITTER. R34. The last byte of the block being sent has gone out. -/
  | blockLeftTransmitter
  /-- REPLY. R50. The classifier takes a good REPLY and hands it to the router. -/
  | reply
  /-- DEADLINE_EXPIRY. R53. The deadline timer of the entry with this tag expires. -/
  | deadlineExpiry (tag : Tag)
  /-- FORWARDER_OFFER. R60. The forwarder looks for entries to carry. -/
  | forwarderOffer
  /-- BULLETIN. R109. The classifier takes a good BULLETIN and hands its text to the composer. -/
  | bulletin
  /-- ATTEND. R117, R207. The printer raises ATTEND at a port; `interlock` says that the INTERLOCK input is closed. -/
  | attend (port : Nat) (interlock : Bool)
  /-- SELECT_TIMER. R117. The 50 ms select timer of a port expires. -/
  | selectTimer (port : Nat)
  /-- PHASE_REQUEST. R118. The printer at a port requests the phase with this code. -/
  | phaseRequest (port : Nat) (phase : BitVec 3)
  /-- BYTE_REQUEST. R118. The printer at a port requests a byte; `byte` is what it drives on the byte lines in a phase towards the part. -/
  | byteRequest (port : Nat) (byte : Byte)
  /-- PHASE_STEP_TIMER. R119. The 2 s phase step timer of a port expires. -/
  | phaseStepTimer (port : Nat)
  /-- PORT_RESET_END. R116. The 10 ms PORT RESET pulse of a port ends. -/
  | portResetEnd (port : Nat)
  /-- RETRY_TIMER. R121. The 250 ms retry timer of a port expires. -/
  | retryTimer (port : Nat)
  /-- READY_WAIT. R127. The 10 s ready wait of a port expires. -/
  | readyWait (port : Nat)
  /-- POLL_TIMER. R128. The 500 ms poll interval of a port ends. -/
  | pollTimer (port : Nat)
  /-- FORCE_CLOSE. R173. The Day Close Unit takes the notice that a drawer is free. -/
  | forceClose (drawer : Nat)
  /-- FREEZE. R174, R175. The Day Close Unit judges the freeze condition. -/
  | freeze
  /-- SEND_ATTEMPT_START. R180. A CLOSED day passes to SENDING. -/
  | sendAttemptStart
  /-- EOD_SEGMENT_OFFER. R181. The sender offers segments to the data queue. -/
  | eodSegmentOffer
  /-- EOD_ACK. R184. The classifier takes a good EOD ACK and hands it to the Day Close Unit. -/
  | eodAck
  /-- EOD_NAK. R185. The classifier takes a good EOD NAK and hands it to the Day Close Unit. -/
  | eodNak
  /-- ACK_TIMER. R186. The 4 s acknowledgement timer expires. -/
  | ackTimer
  /-- LOAD_BRANCH_PARAMETERS. R25. The classifier takes the MGMT CMD at the head of the receive queue and the Management Unit judges it: LOAD TABLE of table 1 (R196). -/
  | loadBranchParameters
  /-- LOAD_STATION_TABLE. R25. The classifier takes the MGMT CMD at the head of the receive queue and the Management Unit judges it: LOAD TABLE of table 2 (R4). -/
  | loadStationTable
  /-- LOAD_TRANSACTION_KINDS. R25. The classifier takes the MGMT CMD at the head of the receive queue and the Management Unit judges it: LOAD TABLE of table 3 (R39). -/
  | loadTransactionKinds
  /-- LOAD_CURRENCIES. R25. The classifier takes the MGMT CMD at the head of the receive queue and the Management Unit judges it: LOAD TABLE of table 4 (R66). -/
  | loadCurrencies
  /-- LOAD_DENOMINATION_LISTS. R25. The classifier takes the MGMT CMD at the head of the receive queue and the Management Unit judges it: LOAD TABLE of table 5 (R67). -/
  | loadDenominationLists
  /-- LOAD_RATES. R25. The classifier takes the MGMT CMD at the head of the receive queue and the Management Unit judges it: LOAD TABLE of table 6 (R68). -/
  | loadRates
  /-- LOAD_DRAWER_LIMITS. R25. The classifier takes the MGMT CMD at the head of the receive queue and the Management Unit judges it: LOAD TABLE of table 7 (R80). -/
  | loadDrawerLimits
  /-- LOAD_FORMATS. R25. The classifier takes the MGMT CMD at the head of the receive queue and the Management Unit judges it: LOAD TABLE of table 8 (R97). -/
  | loadFormats
  /-- LOAD_ATTRIBUTE_BANKS. R25. The classifier takes the MGMT CMD at the head of the receive queue and the Management Unit judges it: LOAD TABLE of table 9 (R95). -/
  | loadAttributeBanks
  /-- LOAD_BOOK_LAYOUTS. R25. The classifier takes the MGMT CMD at the head of the receive queue and the Management Unit judges it: LOAD TABLE of table 10 (R136). -/
  | loadBookLayouts
  /-- READ_TABLE. R25. The classifier takes the MGMT CMD at the head of the receive queue and the Management Unit judges it: READ TABLE (R195). -/
  | readTable
  /-- READ_STATUS. R25. The classifier takes the MGMT CMD at the head of the receive queue and the Management Unit judges it: READ STATUS (R198). -/
  | readStatus
  /-- SET_HOLD. R25. The classifier takes the MGMT CMD at the head of the receive queue and the Management Unit judges it: SET FLAGS whose mask names a HOLD target (R12, R197). -/
  | setHold
  /-- CLEAR_HOLD. R25. The classifier takes the MGMT CMD at the head of the receive queue and the Management Unit judges it: CLEAR FLAGS whose mask names a HOLD target (R12, R197). -/
  | clearHold
  /-- SET_ENABLE. R25. The classifier takes the MGMT CMD at the head of the receive queue and the Management Unit judges it: SET FLAGS whose mask names an ENABLE target (R127, R197). -/
  | setEnable
  /-- CLEAR_ENABLE. R25. The classifier takes the MGMT CMD at the head of the receive queue and the Management Unit judges it: CLEAR FLAGS whose mask names an ENABLE target (R131, R197). -/
  | clearEnable
  /-- SET_STAND_IN_ENABLE. R25. The classifier takes the MGMT CMD at the head of the receive queue and the Management Unit judges it: SET FLAGS whose mask names STAND-IN ENABLE (R40, R197). -/
  | setStandInEnable
  /-- CLEAR_STAND_IN_ENABLE. R25. The classifier takes the MGMT CMD at the head of the receive queue and the Management Unit judges it: CLEAR FLAGS whose mask names STAND-IN ENABLE (R40, R197). -/
  | clearStandInEnable
  /-- SET_LOOP_FALLBACK_DISABLE. R25. The classifier takes the MGMT CMD at the head of the receive queue and the Management Unit judges it: SET FLAGS whose mask names LOOP FALLBACK DISABLE (R14, R197). -/
  | setLoopFallbackDisable
  /-- CLEAR_LOOP_FALLBACK_DISABLE. R25. The classifier takes the MGMT CMD at the head of the receive queue and the Management Unit judges it: CLEAR FLAGS whose mask names LOOP FALLBACK DISABLE (R14, R197). -/
  | clearLoopFallbackDisable
  /-- RATE_RESTORE. R25. The classifier takes the MGMT CMD at the head of the receive queue and the Management Unit judges it: SET FLAGS or CLEAR FLAGS whose mask names RATE RESTORE (R14, R197). -/
  | rateRestore
  /-- OPEN_DAY. R25. The classifier takes the MGMT CMD at the head of the receive queue and the Management Unit judges it: OPEN DAY (R169, R170). -/
  | openDay
  /-- CLOSE_DAY. R25. The classifier takes the MGMT CMD at the head of the receive queue and the Management Unit judges it: CLOSE DAY (R171). -/
  | closeDay
  /-- RESEND_EOD. R25. The classifier takes the MGMT CMD at the head of the receive queue and the Management Unit judges it: RESEND EOD (R188). -/
  | resendEod
  /-- SET_TIME. R25. The classifier takes the MGMT CMD at the head of the receive queue and the Management Unit judges it: SET TIME (R199). -/
  | setTime
  /-- SAVE_SETTINGS. R25. The classifier takes the MGMT CMD at the head of the receive queue and the Management Unit judges it: SAVE SETTINGS (R201). -/
  | saveSettings
  /-- RESTART. R25. The classifier takes the MGMT CMD at the head of the receive queue and the Management Unit judges it: RESTART (R203). -/
  | restart
  /-- LOOP_TEST_START. R25. The classifier takes the MGMT CMD at the head of the receive queue and the Management Unit judges it: LOOP TEST START (R15). -/
  | loopTestStart
  /-- LOOP_TEST_STOP. R25. The classifier takes the MGMT CMD at the head of the receive queue and the Management Unit judges it: LOOP TEST STOP (R18). -/
  | loopTestStop
  /-- LOAD_PENDING. R25. The classifier takes the MGMT CMD at the head of the receive queue and the Management Unit judges it: LOAD PENDING (R152). -/
  | loadPending
  /-- CLEAR_PENDING. R25. The classifier takes the MGMT CMD at the head of the receive queue and the Management Unit judges it: CLEAR PENDING (R153). -/
  | clearPending
  /-- POST_CORRECTION. R25. The classifier takes the MGMT CMD at the head of the receive queue and the Management Unit judges it: POST CORRECTION (R88, R89). -/
  | postCorrection
  /-- UNKNOWN_COMMAND. R25. The classifier takes the MGMT CMD at the head of the receive queue and the Management Unit judges it: a command that no other row names (R193, R195, R197). -/
  | unknownCommand
  /-- SETTINGS_WRITE_COMPLETE. R201. The settings memory reports a write complete. -/
  | settingsWriteComplete
  /-- SETTINGS_READ_BACK. R201. The image read back completes. -/
  | settingsReadBack (answer : MemoryAnswer)
  /-- SETTINGS_WRITE_TIMEOUT. R201. A write is not reported complete within 100 ms. -/
  | settingsWriteTimeout
  /-- SAVE_TIMER. R201. The 3 s save timer expires. -/
  | saveTimer
  /-- RESTART_RESPONSE. R204. The RESTART response is built and offered. -/
  | restartResponse
  /-- POWER_UP. R202. Power-up begins a cold start. -/
  | powerUp
  /-- RESET_ASSERTED. R202. RESET is asserted. -/
  | resetAsserted
  /-- RESET_RELEASED. R202. RESET is released, which begins a cold start. -/
  | resetReleased
  /-- SETTINGS_IMAGE_READ. R202. The image read at a cold start completes. -/
  | settingsImageRead (answer : MemoryAnswer)
  /-- SETTINGS_READ_TIMEOUT. R202. The memory does not answer the read within 100 ms. -/
  | settingsReadTimeout
  /-- CLOCK_SECOND. R199. A second of the part's own timer has passed. -/
  | clockSecond
  deriving DecidableEq, Repr

end Sys2Proof
end

