-- ==== Sys2Proof/WellFormed.lean ====
section
/-! DEFINITION. Which commands are well formed: the ranges of the operands that arrive from outside. -/

namespace Sys2Proof

/-- R2: a body of at most 255 bytes; `report` bytes of it are the report byte. -/
def frameBodyFits (report : Nat) (body : List Byte) : Bool := report + body.length ≤ 255

/-- R46, R60: a tag whose station is 0 (a forward entry) or a loop address, and whose sequence is a byte. -/
def tagInRange (t : Tag) : Bool := t.station ≤ 24 && t.sequence ≤ 255

/-- R116: a printer port. -/
def portInRange (p : Nat) : Bool := 1 ≤ p && p ≤ 8

/-- R2, R41: the answer to a POLL that carries a request body has at least one byte of it. -/
def requestFits (body : List Byte) : Bool := 1 ≤ body.length && frameBodyFits 1 body

/-- R16, R17: an echo carries 8 or 16 bytes. -/
def echoFits (body : List Byte) : Bool := body.length = 8 || body.length = 16

/-- Whether every operand of a command is in its range. -/
def WellFormed : Instr → Bool
  | .req _ body => requestFits body
  | .testEcho _ body => echoFits body
  | .deadlineExpiry tag => tagInRange tag
  | .attend port _ => portInRange port
  | .selectTimer port => portInRange port
  | .phaseRequest port _ => portInRange port
  | .byteRequest port _ => portInRange port
  | .phaseStepTimer port => portInRange port
  | .portResetEnd port => portInRange port
  | .retryTimer port => portInRange port
  | .readyWait port => portInRange port
  | .pollTimer port => portInRange port
  | .forceClose drawer => decide (drawer ≤ 16)
  | .visit | .nil _ | .alertAck _ | .unusableAnswer _ | .answerTimeout | .answerMarkTimeout
  | .carrierPresent | .carrierLost | .blockComplete _ _ | .badBlock | .sync | .attemptTimer | .syncOffer
  | .keepAlive | .silenceTimer | .recoveryLimit | .hold | .release | .holdTimer | .transmitStart
  | .blockLeftTransmitter | .reply | .forwarderOffer | .bulletin | .freeze | .sendAttemptStart
  | .eodSegmentOffer | .eodAck | .eodNak | .ackTimer | .loadBranchParameters | .loadStationTable
  | .loadTransactionKinds | .loadCurrencies | .loadDenominationLists | .loadRates | .loadDrawerLimits
  | .loadFormats | .loadAttributeBanks | .loadBookLayouts | .readTable | .readStatus | .setHold | .clearHold
  | .setEnable | .clearEnable | .setStandInEnable | .clearStandInEnable | .setLoopFallbackDisable
  | .clearLoopFallbackDisable | .rateRestore | .openDay | .closeDay | .resendEod | .setTime | .saveSettings
  | .restart | .loopTestStart | .loopTestStop | .loadPending | .clearPending | .postCorrection | .unknownCommand
  | .settingsWriteComplete | .settingsReadBack _ | .settingsWriteTimeout | .saveTimer | .restartResponse
  | .powerUp | .resetAsserted | .resetReleased | .settingsImageRead _ | .settingsReadTimeout | .clockSecond => true

end Sys2Proof
end

