-- ==== Sys2Proof/Machine/Types.lean ====
section
/-! DEFINITION. The records the blocks of the Gelmar 2400 hold, as plain data: tables 1 to 10, station records, blocks and
queues, outstanding entries, drawers, screens, port records, pending lines, journal entries, the day and the sender. Each
type cites the rule that gives its fields. -/

namespace Sys2Proof.Machine

/-! ### Tables 1 to 10 (R195) -/

/-- The four loop rates (R14). -/
inductive LoopRate where
  | bps2000000 | bps1000000 | bps500000 | bps250000
  deriving DecidableEq, Repr, Inhabited

/-- The seven uplink rates, highest first (R29). -/
inductive LineRate where
  | bps2048000 | bps1024000 | bps256000 | bps128000 | bps64000 | bps19200 | bps9600
  deriving DecidableEq, Repr, Inhabited

/-- The order in which a date is written (R102). -/
inductive DateOrder where
  | dayFirst | monthFirst | yearFirst
  deriving DecidableEq, Repr, Inhabited

/-- Table 1, the branch parameters (R196), with the fields of R14, R36, R40, R102 and R127. `enables` is the printer
enable field, position p - 1 for port p. -/
structure BranchParams where
  loopRate        : LoopRate
  fallbackDisable : Bool
  branch          : Nat
  uplinkRate      : LineRate
  syncThreshold   : Nat
  replyTimeout    : Nat
  floorLimit      : Nat
  budget          : Nat
  standInEnable   : Bool
  grouping        : Option Byte
  decimalChar     : Byte
  dateOrder       : DateOrder
  dateSeparator   : Byte
  enables         : BitVec 8
  deriving DecidableEq, Repr, Inhabited

/-- Station roles (R4). -/
inductive Role where
  | teller | supervisor | enquiry
  deriving DecidableEq, Repr, Inhabited

/-- An entry of table 2, the station table (R4). -/
structure StationEntry where
  role   : Role
  drawer : Option Nat
  bank   : Nat
  port   : Option Nat
  deriving DecidableEq, Repr, Inhabited

/-- Transaction kind classes (R39). -/
inductive KindClass where
  | enquiry | account | cashIn | cashOut | exchange | toReserve | fromReserve
  | signOn | signOff | balance | closeDrawer | closeDay
  deriving DecidableEq, Repr, Inhabited

/-- A loaded entry of table 3, transaction kinds (R39). -/
structure KindEntry where
  cls            : KindClass
  forwarded      : Bool
  standIn        : Bool
  supervisorOnly : Bool
  passbook       : Bool
  localFormat    : Nat
  deriving DecidableEq, Repr, Inhabited

/-- A loaded entry of table 4, currencies (R66). -/
structure Currency where
  letters  : Text
  exponent : Nat
  cashUnit : Nat
  deriving DecidableEq, Repr, Inhabited

/-- Kinds of denomination (R67). -/
inductive DenomKind where
  | note | coin
  deriving DecidableEq, Repr, Inhabited

/-- A denomination of table 5 (R67). -/
structure Denomination where
  face : Nat
  kind : DenomKind
  deriving DecidableEq, Repr, Inhabited

/-- An entry of table 7, drawer limits (R80). -/
structure Limits where
  lo   : Nat
  hi   : Nat
  max  : Nat
  hyst : Nat
  deriving DecidableEq, Repr, Inhabited

/-- Kinds of format field entry (R97). -/
inductive FieldKind where
  | literal | text | amount | count | date
  deriving DecidableEq, Repr, Inhabited

/-- The source of a field entry: the text of a LITERAL, or a reply field number (R97). -/
inductive FieldSource where
  | literal (t : Text)
  | field (n : Nat)
  deriving DecidableEq, Repr, Inhabited

/-- The currency source of an AMOUNT entry (R97). -/
inductive CurrencySource where
  | fixed (index : Nat)
  | field (n : Nat)
  deriving DecidableEq, Repr, Inhabited

/-- A field entry of a format (R97). -/
structure FieldEntry where
  kind     : FieldKind
  row      : Nat
  column   : Nat
  length   : Nat
  attr     : Nat
  source   : FieldSource
  currency : Option CurrencySource
  deriving DecidableEq, Repr, Inhabited

/-- A loaded entry of table 8, formats, with the overlap mark and the dropped count recorded at the load (R97). -/
structure Format where
  origin  : Nat
  entries : List FieldEntry
  overlap : Bool
  dropped : Nat
  deriving DecidableEq, Repr, Inhabited

/-- An attribute record of table 9 (R95). -/
structure AttrRecord where
  bright    : Bool
  reverse   : Bool
  blink     : Bool
  underline : Bool
  hidden    : Bool
  deriving DecidableEq, Repr, Inhabited

/-- A loaded entry of table 10, book layouts (R135). -/
structure BookLayout where
  linesPerPage : Nat
  pagesPerBook : Nat
  skips        : List Nat
  dateCol      : Nat
  dateWidth    : Nat
  descCol      : Nat
  descWidth    : Nat
  amountCol    : Nat
  amountWidth  : Nat
  balanceCol   : Nat
  balanceWidth : Nat
  threshold    : Nat
  deriving DecidableEq, Repr, Inhabited

/-- Tables 1 to 10, as the settings image holds them (R200). -/
structure Tables where
  params     : BranchParams
  stations   : Vector StationEntry 24
  kinds      : Vector (Option KindEntry) 64
  currencies : Vector (Option Currency) 12
  denoms     : Vector (List Denomination) 12
  rates      : Vector Nat 12
  limits     : Vector Limits 17
  formats    : Vector (Option Format) 96
  banks      : Vector (Vector AttrRecord 16) 4
  layouts    : Vector (Option BookLayout) 8
  deriving DecidableEq, Repr

/-! ### The Station Loop Controller -/

/-- Station states (R5). -/
inductive StationState where
  | absent | present | signed | held | test
  deriving DecidableEq, Repr, Inhabited

/-- A frame sent to a station and not yet confirmed (R5): a row span or a READY. -/
inductive VisitFrame where
  | row (row first last : Nat)
  | ready
  deriving DecidableEq, Repr, Inhabited

/-- A station's record (R5). -/
structure StationRec where
  state  : StationState
  teller : Option Text
  misses : Nat
  frames : List VisitFrame
  deriving DecidableEq, Repr, Inhabited

/-- What the visit waits for: the answer to a POLL, or the echo of a TEST frame with this expected body (R6, R16). -/
inductive Awaited where
  | poll
  | test (expected : List Byte)
  deriving DecidableEq, Repr, Inhabited

/-- The visit in progress (R6). `markWait` is set once the answer has been judged at its first character and the part only
waits for the line to be at mark (R3); `rate` is the rate the visit's last frame was sent at (R1). -/
structure Visit where
  station  : Nat
  awaited  : Awaited
  markWait : Bool
  rate     : LoopRate
  deriving DecidableEq, Repr, Inhabited

/-- The loop test's capture (R17). -/
structure Capture where
  index    : Nat
  position : Option Nat
  expected : Option Byte
  actual   : Option Byte
  deriving DecidableEq, Repr, Inhabited

/-- The pattern of a loop test (R15): FIXED with its 8 bytes, or PSEUDO with its 15-bit register, whose stage i is bit i - 1. -/
inductive Pattern where
  | fixed (bytes : List Byte)
  | pseudo (register : BitVec 15)
  deriving DecidableEq, Repr, Inhabited

/-- The test record (R15). -/
structure TestRec where
  station   : Nat
  pattern   : Pattern
  injection : Bool
  sent      : Nat
  errors    : Nat
  capture   : Option Capture
  deriving DecidableEq, Repr, Inhabited

/-- The state of the Station Loop Controller. `sentFrames` is the model's record of the frames of the current or last
visit, each as the characters put on the line (R1). -/
structure Loop where
  stations   : Vector StationRec 24
  goodCount  : Nat
  failCount  : Nat
  rate       : LoopRate
  stepDowns  : Nat
  cycle      : Nat
  nextAddr   : Nat
  visit      : Option Visit
  test       : Option TestRec
  sentFrames : List (List (BitVec 11))
  deriving DecidableEq, Repr

/-! ### The Uplink Controller -/

/-- Link states (R27). -/
inductive LinkState where
  | down | sync | up | recovery
  deriving DecidableEq, Repr, Inhabited

/-- Block classes (R21). -/
inductive BlockClass where
  | request | reply | mgmtCmd | mgmtResp | eodSeg | eodAck | eodNak | hold | release | sync | bulletin
  deriving DecidableEq, Repr, Inhabited

/-- The status of a stored block (R23). -/
inductive RxStatus where
  | good | checkError | lengthError
  deriving DecidableEq, Repr, Inhabited

/-- A stored block of the receive queue (R24). `cls` is absent for a class code that names no class; `time` is when it
became complete (R28); `lost` is the overrun mark's lost count, 0 for no mark. -/
structure RxBlock where
  status : RxStatus
  cls    : Option BlockClass
  tag    : Nat
  body   : List Byte
  time   : Nat
  lost   : Nat
  deriving DecidableEq, Repr, Inhabited

/-- A block of a transmit queue (R33). Its class gives its owner. -/
structure TxBlock where
  cls  : BlockClass
  tag  : Nat
  body : List Byte
  deriving DecidableEq, Repr, Inhabited

/-- The block being sent (R34), with the branch number (R21) and the rate (R29) as they stood when the transmitter began it. -/
structure Sending where
  block  : TxBlock
  branch : Nat
  rate   : LineRate
  broken : Bool
  deriving DecidableEq, Repr, Inhabited

/-- The uplink's status counters (R36). -/
structure UplinkCounters where
  goodBlocks       : Nat
  checkErrors      : Nat
  lengthErrors     : Nat
  misaddressed     : Nat
  unknownClass     : Nat
  outOfState       : Nat
  overrunLost      : Nat
  bursts           : Nat
  silences         : Nat
  recoveryFailures : Nat
  rateSwitches     : Nat
  autoReleases     : Nat
  deriving DecidableEq, Repr, Inhabited

/-- The state of the Uplink Controller. `lineOut` is the model's record of the last block put on the line, as bytes. -/
structure Uplink where
  link           : LinkState
  rate           : LineRate
  syncFailures   : Nat
  firstSync      : Option Nat
  attemptTimer   : Timer
  syncTimer      : Timer
  keepAliveTimer : Timer
  silenceTimer   : Timer
  recoveryTimer  : Timer
  holdTimer      : Timer
  recoverySyncs  : Nat
  burstBlocks    : Nat
  burstBad       : Nat
  rx             : List RxBlock
  control        : List TxBlock
  data           : List TxBlock
  sending        : Option Sending
  lineOut        : List Byte
  held           : Bool
  counters       : UplinkCounters
  deriving DecidableEq, Repr

/-! ### The Transaction Router -/

/-- The direction of a cash leg (R41). -/
inductive Direction where
  | cashIn | cashOut
  deriving DecidableEq, Repr, Inhabited

/-- A denomination index with a count of pieces. -/
structure Pair where
  denom : Nat
  count : Nat
  deriving DecidableEq, Repr, Inhabited

/-- A cash leg as the request body gives it (R41). -/
structure ReqLeg where
  currency : Nat
  dir      : Direction
  amount   : Nat
  pairs    : List Pair
  deriving DecidableEq, Repr, Inhabited

/-- A well-formed request body (R41). -/
structure Request where
  kind    : Nat
  account : Option Text
  legs    : List ReqLeg
  fields  : List Text
  deriving DecidableEq, Repr, Inhabited

/-- A leg of an accepted request (R47): A, the cash amount C, the rounding result and the breakdown. -/
structure Leg where
  currency : Nat
  dir      : Direction
  amount   : Nat
  cash     : Nat
  rounding : Int
  pairs    : List Pair
  deriving DecidableEq, Repr, Inhabited

/-- The base equivalent and the rate number of a posted leg (R76). -/
structure Posted where
  base : Nat
  rate : Nat
  deriving DecidableEq, Repr, Inhabited

/-- A leg of a journal entry (R158). -/
structure JLeg where
  currency : Nat
  dir      : Direction
  amount   : Nat
  cash     : Nat
  posted   : Option Posted
  inDoubt  : Bool
  deriving DecidableEq, Repr, Inhabited

/-- The reasons of a refusal at intake (R45), and the reason of a malformed body (R41). -/
inductive Reason where
  | unknownKind | role | notSigned | busy | dayNotOpen | dayClosing | dayClosed | drawerClosed | drawerBusy
  | badCurrency | noDenominations | amountRange | breakdownMismatch | notesShort | drawerOverLimit | journalFull
  | lineDown | standInLimit | lineCongested | notUnderstood
  deriving DecidableEq, Repr, Inhabited

/-- The results of a completion (R158). -/
inductive Result where
  | approved | declined | timedOut | linkLost | standIn | late | mismatch
  deriving DecidableEq, Repr, Inhabited

/-- The state of an outstanding entry (R47). -/
inductive EntryState where
  | queued | sent
  deriving DecidableEq, Repr, Inhabited

/-- An entry of the outstanding request table (R47) with its deadline timer (R48). A forward entry has station 0 in its tag
and a journal sequence. -/
structure OutEntry where
  tag        : Tag
  kind       : Nat
  station    : Nat
  drawer     : Option Nat
  state      : EntryState
  acceptance : Nat
  deadline   : Nat
  account    : Option Text
  legs       : List Leg
  journalSeq : Option Nat
  timer      : Timer
  deriving DecidableEq, Repr, Inhabited

/-- A station's unanswered record (R54). -/
structure Unanswered where
  tag     : Tag
  kind    : Nat
  drawer  : Option Nat
  account : Option Text
  legs    : List JLeg
  deriving DecidableEq, Repr, Inhabited

/-- The router's status counters (R63). `refusals` holds the 19 reasons of R45 in its order. -/
structure RouterCounters where
  malformed       : Nat
  refusals        : Vector Nat 19
  timedOut        : Nat
  badReplies      : Nat
  lateReplies     : Nat
  droppedLines    : Nat
  standIns        : Nat
  forwarded       : Nat
  forwardDeclined : Nat
  deriving DecidableEq, Repr

/-- The state of the Transaction Router. -/
structure Router where
  table        : List OutEntry
  sequences    : Vector Nat 24
  forwarderSeq : Nat
  unanswered   : Vector (Option Unanswered) 24
  setAside     : List Nat
  counters     : RouterCounters
  deriving DecidableEq, Repr

/-- A passbook line as a reply or LOAD PENDING carries it (R49, R152). -/
structure LineIn where
  account     : Text
  bookType    : Nat
  date        : Text
  description : Text
  amount      : Int
  balance     : Int
  reference   : Text
  items       : Nat
  deriving DecidableEq, Repr, Inhabited

/-- A well-formed reply body (R49). -/
structure Reply where
  approved  : Bool
  reason    : Option Nat
  format    : Option Nat
  reference : Option Text
  amounts   : List Nat
  data      : List (Nat × Text)
  line      : Option LineIn
  deriving DecidableEq, Repr, Inhabited

/-! ### The Cash Totals Unit -/

/-- On-hand and reserved counts of one denomination (R69). -/
structure Pieces where
  onHand   : Nat
  reserved : Nat
  deriving DecidableEq, Repr, Inhabited

/-- A balance record (R69, R85). -/
structure BalanceRec where
  counted    : Nat
  difference : Int
  base       : Int
  time       : Nat
  deriving DecidableEq, Repr, Inhabited

/-- What a drawer holds for one currency (R69). -/
structure DrawerCurrency where
  pieces   : List Pieces
  dayIn    : Nat
  dayOut   : Nat
  rounding : Int
  balance  : Option BalanceRec
  deriving DecidableEq, Repr, Inhabited

/-- Limit states (R81). -/
inductive LimitState where
  | low | normal | high | over
  deriving DecidableEq, Repr, Inhabited

/-- A drawer record (R69). -/
structure Drawer where
  isOpen     : Bool
  currencies : Vector DrawerCurrency 12
  baseIn     : Nat
  baseOut    : Nat
  standIn    : Nat
  position   : Nat
  limit      : LimitState
  overflow   : Bool
  unbalanced : Bool
  deriving DecidableEq, Repr, Inhabited

/-! ### The Screen Composer -/

/-- A cell of the screen store (R94). -/
structure Cell where
  char : Byte
  attr : Nat
  deriving DecidableEq, Repr

/-- A screen row of 80 cells. -/
abbrev Row := Vector Cell 80

/-- A span of columns, from its first to its last (R111). -/
structure Span where
  first : Nat
  last  : Nat
  deriving DecidableEq, Repr, Inhabited

/-- Alert codes, in the order of R107. -/
inductive AlertCode where
  | refused | approved | declined | mismatch | timedOut | timedOutInDoubt | linkLost | linkLostInDoubt | standIn
  | replyMismatch | lateApproval | standInDeclined | drawerHigh | drawerOver | drawerLow
  | printerBusy | branchClosed | stripeInvalid | noEntries | stripeNotUpdated | bookFull | accountInUse
  | openPage | turnPage | bulletin
  deriving DecidableEq, Repr, Inhabited

/-- An alert: its code and its parameter (R107). -/
structure Alert where
  alert : AlertCode
  param : Nat
  deriving DecidableEq, Repr, Inhabited

/-- A station's screen, its dirty marks, its context (R96) and its alert queue (R108). -/
structure StationScreen where
  rows         : Vector Row 24
  dirty        : Vector (Option Span) 24
  format       : Option Nat
  origin       : Nat
  fields       : List (Nat × Text)
  pendingReady : Bool
  alertsLost   : Nat
  alerts       : List Alert
  deriving DecidableEq, Repr

/-- The state of the Screen Composer. -/
structure Composer where
  screens        : Vector StationScreen 24
  bulletinText   : Option Text
  bulletinNumber : Nat
  unknownFormat  : Nat
  badBulletin    : Nat
  deriving DecidableEq, Repr

/-! ### The Printer Port Controller -/

/-- Port states (R126). -/
inductive PortState where
  | disabled | notReady | failed | idle | busy | attention
  deriving DecidableEq, Repr, Inhabited

/-- Dialogue states (R126). -/
inductive Dialogue where
  | none | selecting | waiting | orderOut | dataOut | dataIn | stateIn | closeIn | retryWait
  deriving DecidableEq, Repr, Inhabited

/-- The orders (R124). -/
inductive OrderKind where
  | setLayout | readStripe | printLine | eject | sense | statusRequest
  deriving DecidableEq, Repr, Inhabited

/-- An order as it is carried: its kind, the book type of a SET LAYOUT, its order bytes and its data bytes. -/
structure Order where
  kind     : OrderKind
  bookType : Nat
  bytes    : List Byte
  data     : List Byte
  deriving DecidableEq, Repr, Inhabited

/-- Attention reasons (R126). -/
inductive AttentionReason where
  | none | coverOpen | paperJam
  deriving DecidableEq, Repr, Inhabited

/-- Sense codes (R123). -/
inductive SenseCode where
  | noBook | stripeUnreadable | stripeWriteFailed | lineOutOfRange | noLayout | paperJam | coverOpen | badOrder | reservedSet
  deriving DecidableEq, Repr, Inhabited

/-- A sense record (R123). -/
structure Sense where
  sense : SenseCode
  line  : Nat
  deriving DecidableEq, Repr, Inhabited

/-- A status record (R124). -/
structure StatusRec where
  book   : Bool
  cover  : Bool
  jammed : Bool
  deriving DecidableEq, Repr, Inhabited

/-- A port's counters (R132). -/
structure PortCounters where
  dialogues : Nat
  noAnswers : Nat
  aborts    : Nat
  busies    : Nat
  checks    : Nat
  resets    : Nat
  refused   : Nat
  books     : Nat
  deriving DecidableEq, Repr, Inhabited

/-- A port record (R126), with the positions, status byte and return bytes of its dialogue (R118), its timers, the PORT
RESET pulse and a dialogue due at its end (R116). `byteOut` is the model's record of the byte last driven. -/
structure Port where
  state           : PortState
  dialogue        : Dialogue
  order           : Option Order
  poll            : Bool
  sensing         : Bool
  attempts        : Nat
  senseAttempts   : Nat
  orderPos        : Nat
  dataPos         : Nat
  status          : Option Byte
  returned        : List Byte
  overlong        : Bool
  loaded          : Option Nat
  bookSeen        : Bool
  attention       : AttentionReason
  readinessLost   : Bool
  claimed         : Bool
  lastStatus      : Option StatusRec
  lastSense       : Option Sense
  selectTimer     : Timer
  stepTimer       : Timer
  retryTimer      : Timer
  readyTimer      : Timer
  pollTimer       : Timer
  pulseTimer      : Timer
  due             : Bool
  byteOut         : Option Byte
  counters        : PortCounters
  deriving DecidableEq, Repr, Inhabited

/-- The outcome of an order (R130). GOOD carries the return bytes, CHECK the sense record. -/
inductive OrderOutcome where
  | good (returned : List Byte)
  | check (sense : Sense)
  | busy
  | busyLimit
  | noAnswer
  | aborted
  deriving DecidableEq, Repr, Inhabited

/-! ### The Passbook Line Manager -/

/-- Kinds of pending line (R139). -/
inductive LineKind where
  | item | summary
  deriving DecidableEq, Repr, Inhabited

/-- A pending line (R139). -/
structure PLine where
  reference   : Text
  date        : Text
  description : Text
  amount      : Int
  balance     : Int
  items       : Nat
  kind        : LineKind
  inPrint     : Bool
  deriving DecidableEq, Repr, Inhabited

/-- A slot's account (R139). -/
structure Account where
  account  : Text
  bookType : Nat
  lines    : List PLine
  deriving DecidableEq, Repr, Inhabited

/-- A stripe record (R138). -/
structure Stripe where
  account  : Text
  bookType : Nat
  serial   : Text
  page     : Nat
  u        : Nat
  check    : Nat
  deriving DecidableEq, Repr, Inhabited

/-- Print job states (R144). -/
inductive JobState where
  | reading | printing | turnWait | ending
  deriving DecidableEq, Repr, Inhabited

/-- A print job record (R144). `ejecting` says that the job's EJECT has been given, and `failed` that the failed-job counter has counted the
job (R150, assumption 20). -/
structure Job where
  state     : JobState
  stripe    : Option Stripe
  page      : Nat
  u         : Nat
  inPrint   : Option Text
  endAlert  : Option Alert
  printed   : Nat
  returning : Bool
  ejecting  : Bool
  failed    : Bool
  deriving DecidableEq, Repr, Inhabited

/-- A settlement (R151): the line it settles, and whether the line was printed. -/
structure Settlement where
  account   : Text
  reference : Text
  printed   : Bool
  deriving DecidableEq, Repr, Inhabited

/-- The Passbook Line Manager's counters (R154). -/
structure PassbookCounters where
  stored       : Nat
  duplicates   : Nat
  notRecorded  : Nat
  summaries    : Nat
  fullStore    : Nat
  jobs         : Nat
  stripeBad    : Nat
  linesPrinted : Nat
  failedJobs   : Nat
  deriving DecidableEq, Repr, Inhabited

/-- The state of the Passbook Line Manager. -/
structure Passbook where
  slots       : Vector (Option Account) 512
  jobs        : Vector (Option Job) 8
  settlements : Vector (Option Settlement) 8
  counters    : PassbookCounters
  deriving DecidableEq, Repr

/-! ### The Day Close Unit -/

/-- Day states (R168). -/
inductive DayState where
  | noDay | opened | closing | closed | sending | suspended | sent | rejected | failed
  deriving DecidableEq, Repr, Inhabited

/-- The freeze description (R175), with the section boundaries (R176): the first segment of each section, 0 if empty. -/
structure FreezeDesc where
  branch       : Nat
  date         : Text
  time         : Nat
  drawers      : List Nat
  entries      : Nat
  lines        : Nat
  accounts     : Nat
  firstDrawer  : Nat
  firstJournal : Nat
  firstPending : Nat
  trailer      : Nat
  segments     : Nat
  deriving DecidableEq, Repr, Inhabited

/-- The Day Close Unit's counters (R189). -/
structure DayCounters where
  offered  : Nat
  timeouts : Nat
  ignored  : Nat
  losses   : Nat
  resends  : Nat
  deriving DecidableEq, Repr, Inhabited

/-- The state of the Day Close Unit: the day (R168), the close-pending set (R172), the freeze description (R175) and the
sender (R180). -/
structure Day where
  state        : DayState
  date         : Option Text
  closePending : List Nat
  freeze       : Option FreezeDesc
  base         : Nat
  pointer      : Nat
  highest      : Nat
  retries      : Nat
  timer        : Timer
  counters     : DayCounters
  deriving DecidableEq, Repr

/-! ### The Journal -/

/-- Journal entry kinds (R158). -/
inductive JKind where
  | transaction | late | mismatch | drawerBalanced | drawerClosed | correction | restart | dayOpen | passbookNotRecorded
  deriving DecidableEq, Repr, Inhabited

/-- Forward states (R158). -/
inductive Forward where
  | none | unforwarded | forwarded | declined
  deriving DecidableEq, Repr, Inhabited

/-- A pair of a correction: a denomination index and a signed change (R88). -/
structure Change where
  denom  : Nat
  change : Int
  deriving DecidableEq, Repr, Inhabited

/-- Event details (R159). -/
inductive Detail where
  | balanced (difference base : Int) (rate : Nat)
  | closed (unbalanced : Bool) (currencies : List Nat)
  | correction (tag : Nat) (changes : List Change)
  | restart (day : DayState) (linkLost : Nat)
  | dayOpen (date : Text)
  deriving DecidableEq, Repr, Inhabited

/-- A journal entry (R158). -/
structure JEntry where
  sequence  : Nat
  time      : Nat
  kind      : JKind
  station   : Option Nat
  teller    : Option Text
  drawer    : Option Nat
  txKind    : Option Nat
  account   : Option Text
  result    : Option Result
  reason    : Option Nat
  legs      : List JLeg
  reference : Option Text
  forward   : Forward
  detail    : Option Detail
  deriving DecidableEq, Repr, Inhabited

/-- The state of the Journal: entries in sequence order, the day sequence counter, the UNFORWARDED count, the omitted count
and the warning state. -/
structure Journal where
  entries     : List JEntry
  counter     : Nat
  unforwarded : Nat
  omitted     : Nat
  warning     : Bool
  deriving DecidableEq, Repr

/-! ### The Management Unit -/

/-- The command in flight (R194), by code and tag. -/
structure InFlight where
  command : Nat
  tag     : Nat
  deriving DecidableEq, Repr, Inhabited

/-- The last save outcome (R205). -/
inductive SaveOutcome where
  | none | written | notWritten | tooLarge
  deriving DecidableEq, Repr, Inhabited

/-- The cause of the last cold start (R202). -/
inductive StartCause where
  | powerUp | resetPin
  deriving DecidableEq, Repr, Inhabited

/-- One write to the settings memory: an address and the bytes (R201). -/
structure MemWrite where
  addr  : Nat
  bytes : List Byte
  deriving DecidableEq, Repr, Inhabited

/-- Where a save stands (R201): writing (the cleared mark, then length, tables and check), reading back, or writing the
valid mark. -/
inductive SaveStep where
  | writing | readingBack | marking
  deriving DecidableEq, Repr, Inhabited

/-- A save in progress (R201): the image, the step, the writes still to be reported complete (the first is the one in
progress), and the write and save timers. -/
structure Save where
  image      : List Byte
  step       : SaveStep
  writes     : List MemWrite
  writeTimer : Timer
  saveTimer  : Timer
  deriving DecidableEq, Repr, Inhabited

/-- What became of the RESTART entry (R204). -/
inductive RestartEntry where
  | written (sequence : Nat)
  | notOffered
  | omitted
  deriving DecidableEq, Repr, Inhabited

/-- What a RESTART's response will carry (R204), and whether the link has entered UP since the warm start. -/
structure RestartInfo where
  linkLost : Nat
  entry    : RestartEntry
  day      : DayState
  upSeen   : Bool
  deriving DecidableEq, Repr, Inhabited

/-- The refusal reasons of a management command, in the order of R192. -/
inductive MgmtReason where
  | unknownCommand | badLength | reservedNonzero | badTable | badIndex | badValue | inUse | wrongDayState | busy | journalFull
  deriving DecidableEq, Repr, Inhabited

/-- The state of the Management Unit. `memory` is the settings memory's contents, in the canonical form of `Memory.wf`. -/
structure Mgmt where
  inFlight   : Option InFlight
  configured : Bool
  unsaved    : Bool
  clock      : Nat
  clockSet   : Bool
  lastSave   : SaveOutcome
  lastLength : Nat
  cause      : StartCause
  warmStarts : Nat
  taken      : Nat
  refusals   : Vector Nat 10
  save       : Option Save
  restart    : Option RestartInfo
  memory     : List Host.Cell
  deriving DecidableEq, Repr

/-- What the part is doing as a whole (R202): held in reset, reading the settings image, or running. -/
inductive Phase where
  | resetHeld | readingImage | running
  deriving DecidableEq, Repr, Inhabited

end Sys2Proof.Machine
end

