-- ==== Sys2Proof/Machine/Ops.lean ====
section
/-! DEFINITION. The named operations every block uses: entries of numbered tables, counters that stay at their limit, timers,
and the settings memory. -/

namespace Sys2Proof.Machine

/-! ### Numbered entries -/

/-- Entry i of a numbered table, counted from 0. -/
def look {α : Type} [Inhabited α] {n : Nat} (v : Vector α n) (i : Nat) : α := v.getD i default

/-- The table with entry i replaced; an index outside the table leaves it as it stands. -/
def put {α : Type} {n : Nat} (v : Vector α n) (i : Nat) (x : α) : Vector α n := v.setIfInBounds i x

/-- The entries of a table with their indexes, in ascending order. -/
def indexed {α : Type} {n : Nat} (v : Vector α n) : List (Nat × α) := (List.range n).zip v.toList

/-- The loop addresses 1 to 24. -/
def stationNumbers : List Nat := List.range' 1 24
/-- The drawers 0 to 16. -/
def drawerNumbers : List Nat := List.range 17
/-- The printer ports 1 to 8. -/
def portNumbers : List Nat := List.range' 1 8
/-- The currency indexes 0 to 11. -/
def currencyNumbers : List Nat := List.range 12

/-- Whether a number is a loop address (R4). -/
def isStation (a : Nat) : Bool := 1 ≤ a && a ≤ 24
/-- Whether a number is a drawer (R69). -/
def isDrawer (d : Nat) : Bool := d ≤ 16
/-- Whether a number is a printer port (R116). -/
def isPort (p : Nat) : Bool := 1 ≤ p && p ≤ 8

/-! ### Counters -/

/-- A status counter one higher, staying at 65,535 (R36, R63, R113, R132, R154, R189, R205). -/
def bump (n : Nat) : Nat := min (n + 1) Config.counterLimit

/-- A status counter k higher, staying at 65,535 (R24). -/
def bumpBy (k n : Nat) : Nat := min (n + k) Config.counterLimit

/-- A count one higher, staying at 255 (R14, R17, R24, R29, R96). -/
def bump255 (n : Nat) : Nat := min (n + 1) 255

/-! ### Timers (spec 00, "Time") -/

/-- One millisecond passes: a running timer has one less left; one at 0 waits for its expiry to be taken. -/
def tickTimer (t : Timer) : Timer := t.map (· - 1)

/-- Whether a timer is running. -/
def running (t : Timer) : Bool := t.isSome

/-! ### Bits -/

/-- Whether bit i of a byte is set, position 0 the least significant. -/
def bitSet (b : Byte) (i : Nat) : Bool := b.getLsbD i

/-! ### The settings memory (R200): 32,768 bytes, (address, byte) cells in one canonical form. -/

namespace Memory

/-- What an address reads that no cell lists (assumption 12, DESIGN CHOICE): 00h. -/
def blank : Byte := 0

/-- The canonical form: addresses strictly rising, none beyond the memory, no cell equal to what an unlisted address reads. -/
def wf : List Host.Cell → Bool
  | [] => true
  | [(a, b)] => a < Config.settingsBytes && b != blank
  | (a, b) :: (a', b') :: m => a < a' && b != blank && wf ((a', b') :: m)

/-- The byte at an address. -/
def read : List Host.Cell → Nat → Byte
  | [], _ => blank
  | (a', b') :: m, a => if a = a' then b' else read m a

/-- The memory with one byte written; the canonical form is kept. -/
def insert : List Host.Cell → Nat → Byte → List Host.Cell
  | [], a, b => if b = blank then [] else [(a, b)]
  | (a', b') :: m, a, b =>
    if a < a' then (if b = blank then (a', b') :: m else (a, b) :: (a', b') :: m)
    else if a = a' then (if b = blank then m else (a, b) :: m)
    else (a', b') :: insert m a b

/-- A write of one byte; an address beyond the 32,768 bytes is not written. -/
def write (m : List Host.Cell) (a : Nat) (b : Byte) : List Host.Cell :=
  if a < Config.settingsBytes then insert m a b else m

/-- A write of bytes from an address upward. -/
def writeBytes (m : List Host.Cell) (a : Nat) : List Byte → List Host.Cell
  | [] => m
  | b :: bs => writeBytes (write m a b) (a + 1) bs

/-- n bytes from an address upward. -/
def readBytes (m : List Host.Cell) (a : Nat) : Nat → List Byte
  | 0 => []
  | n + 1 => read m a :: readBytes m (a + 1) n

end Memory

end Sys2Proof.Machine
end

