-- ==== Sys2Proof/Machine/Text.lean ====
section
/-! DEFINITION. How the part writes numbers, amounts, dates and times on its own account (R99 to R101, R103, R137), and how
it reads the texts they are made from. -/

namespace Sys2Proof.Machine

/-- A digit's character code, 30h to 39h (R206). -/
def digit (n : Nat) : Byte := BitVec.ofNat 8 (0x30 + n % 10)

/-- Whether a character code is a decimal digit. -/
def isDigit (b : Byte) : Bool := 0x30#8 ≤ b && b ≤ 0x39#8

/-- Whether every character of a text is a decimal digit. -/
def allDigits (t : Text) : Bool := t.all isDigit

/-- The decimal digits of a number, in front of an accumulated text; the first argument bounds how many. -/
def digitsOnto : Nat → Nat → Text → Text
  | 0, _, acc => acc
  | f + 1, n, acc => if n < 10 then digit n :: acc else digitsOnto f (n / 10) (digit n :: acc)

/-- A number in decimal, without leading zeros (up to 24 digits, more than any figure of the spec has). -/
def decimal (n : Nat) : Text := digitsOnto 24 n []

/-- A number in decimal with leading zeros to at least w digits. -/
def decimalPad (w n : Nat) : Text :=
  let t := decimal n
  List.replicate (w - t.length) (digit 0) ++ t

/-- A number as exactly two digits (its last two). -/
def two (n : Nat) : Text := [digit (n / 10), digit n]

/-- A number as exactly four digits (its last four). -/
def four (n : Nat) : Text := two (n / 100) ++ two n

/-- The number a text of decimal digits stands for. -/
def readDecimal (t : Text) : Nat := t.foldl (fun n b => n * 10 + (b.toNat - 0x30)) 0

/-- A text placed from the first cell of a width: cut off beyond it, spaces after it (R99). -/
def placeLeft (w : Nat) (t : Text) : Text := t.take w ++ List.replicate (w - t.length) space

/-- A width of one character throughout. -/
def fill (w : Nat) (c : Byte) : Text := List.replicate w c

/-- A text placed against the last cell of a width, spaces before it; '*' throughout when longer (R100, R101). -/
def placeRight (w : Nat) (t : Text) : Text :=
  if w < t.length then fill w (code '*') else List.replicate (w - t.length) space ++ t

/-- Digits grouped in threes, least significant first. -/
def groupRev (g : Byte) : Text → Text
  | a :: b :: c :: d :: rest => a :: b :: c :: g :: groupRev g (d :: rest)
  | t => t

/-- The integer part of an amount grouped in threes from the right, or as it is with no grouping (R100). -/
def group (g : Option Byte) (t : Text) : Text :=
  match g with
  | none => t
  | some c => (groupRev c t.reverse).reverse

/-- R100, steps 1 to 5: a signed amount of minor units of a currency of exponent e. -/
def amountText (g : Option Byte) (point : Byte) (e : Nat) (v : Int) : Text :=
  let ds := decimalPad (e + 1) v.natAbs
  let whole := group g (ds.take (ds.length - e))
  let fraction := if e = 0 then [] else point :: ds.drop (ds.length - e)
  (if v < 0 then [code '-'] else []) ++ whole ++ fraction

/-- R100: a source text that is a number, an optional minus sign and 1 to 15 decimal digits. -/
def readNumber (t : Text) : Option Int :=
  let ds := if t.head? = some (code '-') then t.drop 1 else t
  if 1 ≤ ds.length && ds.length ≤ 15 && allDigits ds then
    some (if t.head? = some (code '-') then -(readDecimal ds : Int) else (readDecimal ds : Int))
  else none

/-- R101: a source text that is a count, 1 to 15 decimal digits. -/
def readCount (t : Text) : Option Nat :=
  if 1 ≤ t.length && t.length ≤ 15 && allDigits t then some (readDecimal t) else none

/-- Whether a year has a 29 February (R101). -/
def isLeap (y : Nat) : Bool := y % 4 = 0 && (y % 100 != 0 || y % 400 = 0)

/-- The length of a month of a year; 0 for a number that names no month (R101). -/
def monthLength (y m : Nat) : Nat :=
  match m with
  | 1 => 31 | 2 => if isLeap y then 29 else 28 | 3 => 31 | 4 => 30 | 5 => 31 | 6 => 30
  | 7 => 31 | 8 => 31 | 9 => 30 | 10 => 31 | 11 => 30 | 12 => 31
  | _ => 0

/-- R101: a text of 8 digits that is a real date, as year, month and day. -/
def readDate (t : Text) : Option (Nat × Nat × Nat) :=
  if t.length = 8 && allDigits t then
    let y := readDecimal (t.take 4)
    let m := readDecimal ((t.drop 4).take 2)
    let d := readDecimal (t.drop 6)
    if 1 ≤ d && d ≤ monthLength y m then some (y, m, d) else none
  else none

/-- A date written in the date order with the separator between its parts, its year as given (R101, R137). That MONTH FIRST goes on with
the day and then the year, and YEAR FIRST with the month and then the day, is PRESUMED (assumption 54). -/
def dateText (order : DateOrder) (sep : Byte) (year : Text) (m d : Nat) : Text :=
  match order with
  | .dayFirst => two d ++ sep :: two m ++ sep :: year
  | .monthFirst => two m ++ sep :: two d ++ sep :: year
  | .yearFirst => year ++ sep :: two m ++ sep :: two d

/-- R103, field 8: a time as "HH:MM:SS". -/
def timeText (t : Nat) : Text :=
  two (t / 3600) ++ code ':' :: two (t / 60 % 60) ++ code ':' :: two (t % 60)

/-- The name of a refusal reason on the alert line (R107, R45). -/
def reasonText : Reason → Text
  | .unknownKind => text "UNKNOWN KIND"
  | .role => text "ROLE"
  | .notSigned => text "NOT SIGNED"
  | .busy => text "BUSY"
  | .dayNotOpen => text "DAY NOT OPEN"
  | .dayClosing => text "DAY CLOSING"
  | .dayClosed => text "DAY CLOSED"
  | .drawerClosed => text "DRAWER CLOSED"
  | .drawerBusy => text "DRAWER BUSY"
  | .badCurrency => text "BAD CURRENCY"
  | .noDenominations => text "NO DENOMINATIONS"
  | .amountRange => text "AMOUNT RANGE"
  | .breakdownMismatch => text "BREAKDOWN MISMATCH"
  | .notesShort => text "NOTES SHORT"
  | .drawerOverLimit => text "DRAWER OVER LIMIT"
  | .journalFull => text "JOURNAL FULL"
  | .lineDown => text "LINE DOWN"
  | .standInLimit => text "STAND-IN LIMIT"
  | .lineCongested => text "LINE CONGESTED"
  | .notUnderstood => text "REQUEST NOT UNDERSTOOD"

/-- The position of a refusal reason in the list of R45, counting from 1; "request not understood" (R41) follows them
(assumption 16). It is the parameter of a REFUSED alert. -/
def Reason.number : Reason → Nat
  | .unknownKind => 1 | .role => 2 | .notSigned => 3 | .busy => 4 | .dayNotOpen => 5 | .dayClosing => 6 | .dayClosed => 7
  | .drawerClosed => 8 | .drawerBusy => 9 | .badCurrency => 10 | .noDenominations => 11 | .amountRange => 12
  | .breakdownMismatch => 13 | .notesShort => 14 | .drawerOverLimit => 15 | .journalFull => 16 | .lineDown => 17
  | .standInLimit => 18 | .lineCongested => 19 | .notUnderstood => 20

/-- The reason with a number. -/
def Reason.ofNumber : Nat → Reason
  | 1 => .unknownKind | 2 => .role | 3 => .notSigned | 4 => .busy | 5 => .dayNotOpen | 6 => .dayClosing | 7 => .dayClosed
  | 8 => .drawerClosed | 9 => .drawerBusy | 10 => .badCurrency | 11 => .noDenominations | 12 => .amountRange
  | 13 => .breakdownMismatch | 14 => .notesShort | 15 => .drawerOverLimit | 16 => .journalFull | 17 => .lineDown
  | 18 => .standInLimit | 19 => .lineCongested | _ => .notUnderstood

/-- The day state on the status line (R106). -/
def dayText : DayState → Text
  | .noDay => text "NO DAY" | .opened => text "OPEN" | .closing => text "CLOSING" | .closed => text "CLOSED"
  | .sending => text "SENDING" | .suspended => text "SUSPENDED" | .sent => text "SENT" | .rejected => text "REJECTED"
  | .failed => text "FAILED"

/-- The link state on the status line (R106). -/
def linkText : LinkState → Text
  | .down => text "DOWN" | .sync => text "SYNC" | .up => text "UP" | .recovery => text "RECOVERY"

/-- The limit state on the status line (R106). -/
def limitText : LimitState → Text
  | .low => text "LOW" | .normal => text "NORMAL" | .high => text "HIGH" | .over => text "OVER"

/-- The port state on the status line (R106). -/
def portText : PortState → Text
  | .disabled => text "DISABLED" | .notReady => text "NOT READY" | .failed => text "FAILED" | .idle => text "IDLE"
  | .busy => text "BUSY" | .attention => text "ATTENTION"

/-- The blank cell (R94). -/
def blankCell : Cell := ⟨space, 0⟩

/-- A blank row (R94). -/
def blankRow : Row := Vector.replicate 80 blankCell

/-- A row of 80 cells holding a text from column 1, spaces after it, every cell at one attribute (R106, R107). -/
def textRow (attr : Nat) (t : Text) : Row :=
  Vector.ofFn fun i : Fin 80 => ⟨(t[i.val]?).getD space, attr⟩

/-- What a status line shows of a station's drawer (R106). -/
structure StatusDrawer where
  drawer : Nat
  limit  : LimitState
  deriving DecidableEq, Repr

/-- What a status line shows of a station's printer port (R106). -/
structure StatusPort where
  port  : Nat
  state : PortState
  deriving DecidableEq, Repr

/-- R106: the text of the status line, its items from the first column of their spans and spaces elsewhere. -/
def statusText (station : Nat) (teller : Option Text) (day : DayState) (link : LinkState)
    (drawer : Option StatusDrawer) (port : Option StatusPort) (warning : Bool) : Text :=
  two station ++ fill 2 space                                           -- columns 1 to 4
  ++ placeLeft 11 (placeLeft 8 (teller.getD []))                        -- columns 5 to 15
  ++ placeLeft 12 (dayText day)                                         -- columns 16 to 27
  ++ placeLeft 12 (linkText link)                                       -- columns 28 to 39
  ++ placeLeft 4 (match drawer with | some d => code 'D' :: two d.drawer | none => [])      -- columns 40 to 43
  ++ placeLeft 9 (match drawer with | some d => limitText d.limit | none => [])             -- columns 44 to 52
  ++ placeLeft 3 (match port with | some p => [code 'P', digit p.port] | none => [])        -- columns 53 to 55
  ++ placeLeft 10 (match port with | some p => portText p.state | none => [])               -- columns 56 to 65
  ++ placeLeft 7 (if warning then text "JOURNAL" else [])               -- columns 66 to 72

/-- R107: the text of an alert. `bulletin` is the branch's latest bulletin text. -/
def alertText (bulletin : Option Text) (a : Alert) : Text :=
  let n := decimal a.param
  match a.alert with
  | .refused => text "REFUSED " ++ reasonText (Reason.ofNumber a.param)
  | .approved => text "APPROVED JNL " ++ n
  | .declined => text "DECLINED REASON " ++ n
  | .mismatch => text "NOT POSTED - REPLY MISMATCH JNL " ++ n
  | .timedOut => text "TIMED OUT JNL " ++ n
  | .timedOutInDoubt => text "TIMED OUT - IN DOUBT JNL " ++ n
  | .linkLost => text "LINK LOST JNL " ++ n
  | .linkLostInDoubt => text "LINK LOST - IN DOUBT JNL " ++ n
  | .standIn => text "STAND-IN JNL " ++ n
  | .replyMismatch => text "REPLY MISMATCH STATION " ++ n
  | .lateApproval => text "LATE APPROVAL STATION " ++ n
  | .standInDeclined => text "STAND-IN DECLINED JNL " ++ n
  | .drawerHigh => text "DRAWER " ++ n ++ text " HIGH"
  | .drawerOver => text "DRAWER " ++ n ++ text " OVER"
  | .drawerLow => text "DRAWER " ++ n ++ text " LOW"
  | .printerBusy => text "PRINTER " ++ n ++ text " BUSY"
  | .branchClosed => text "PRINTER " ++ n ++ text " BRANCH CLOSED"
  | .stripeInvalid => text "PRINTER " ++ n ++ text " STRIPE INVALID"
  | .noEntries => text "PRINTER " ++ n ++ text " NO ENTRIES"
  | .stripeNotUpdated => text "PRINTER " ++ n ++ text " STRIPE NOT UPDATED"
  | .bookFull => text "PRINTER " ++ n ++ text " BOOK FULL"
  | .accountInUse => text "PRINTER " ++ n ++ text " ACCOUNT IN USE"
  | .openPage => text "OPEN PAGE " ++ n
  | .turnPage => text "TURN TO PAGE " ++ n
  | .bulletin => bulletin.getD []

end Sys2Proof.Machine
end

