-- ==== Sys2Proof/Machine/Codec.lean ====
section
/-! DEFINITION. The encoding of fields (R206), the check of a loop frame (R2), the check sequence of a block and of the
settings image (R22), the readers that take a body apart, and the codes of the named values (R206 and the last chapter). -/

namespace Sys2Proof.Machine

/-! ### Writing fields (R206) -/

/-- A binary field of w bytes, most significant byte first. -/
def be : Nat → Nat → List Byte
  | 0, _ => []
  | w + 1, n => BitVec.ofNat 8 (n / 256 ^ w) :: be w n

/-- A signed binary field of w bytes, two's complement. -/
def beInt (w : Nat) (v : Int) : List Byte := be w (v % (256 ^ w : Nat)).toNat

/-- One byte. -/
def by1 (n : Nat) : List Byte := be 1 n

/-- A yes-or-no field. -/
def flag (b : Bool) : List Byte := by1 (if b then 1 else 0)

/-- A text field: its length and its characters. -/
def encText (t : Text) : List Byte := by1 t.length ++ t

/-- An optional field: its presence byte and the field. -/
def encOpt {α : Type} (f : α → List Byte) : Option α → List Byte
  | none => [0]
  | some a => 1 :: f a

/-- Items one after another. -/
def encAll {α : Type} (f : α → List Byte) (l : List α) : List Byte := (l.map f).flatten

/-- A list: its count and its items. -/
def encList {α : Type} (f : α → List Byte) (l : List α) : List Byte := by1 l.length ++ encAll f l

/-- The time left on a timer: milliseconds in 4 bytes, FFFFFFFFh when stopped. -/
def encTimer : Timer → List Byte
  | none => be 4 0xFFFFFFFF
  | some t => be 4 t

/-! ### Reading fields (R206) -/

/-- What comes of reading a field: the value with the verdict on its range and the bytes after it, or that the body's length
does not suit it, or that a presence byte names neither presence nor absence. -/
inductive Parsed (α : Type) where
  | ok (a : α) (good : Bool) (rest : List Byte)
  | length
  | bad
  deriving DecidableEq, Repr

/-- A reader of a field. -/
abbrev Reader (α : Type) := List Byte → Parsed α

/-- The reader that takes nothing. -/
def Reader.pure {α : Type} (a : α) (good : Bool := true) : Reader α := fun bs => .ok a good bs

/-- One reader, then another that depends on what it read; both verdicts count. -/
def Reader.andThen {α β : Type} (p : Reader α) (f : α → Reader β) : Reader β := fun bs =>
  match p bs with
  | .ok a g rest =>
    match f a rest with
    | .ok b g' rest' => .ok b (g && g') rest'
    | .length => .length
    | .bad => .bad
  | .length => .length
  | .bad => .bad

/-- What was read, turned into another value, with a further verdict. -/
def Reader.map {α β : Type} (p : Reader α) (f : α → β) (good : α → Bool := fun _ => true) : Reader β := fun bs =>
  match p bs with
  | .ok a g rest => .ok (f a) (g && good a) rest
  | .length => .length
  | .bad => .bad

/-- n bytes. -/
def Reader.raw (n : Nat) : Reader (List Byte) := fun bs =>
  if n ≤ bs.length then .ok (bs.take n) true (bs.drop n) else .length

/-- The number whose bytes, most significant first, these are. -/
def ofBe (bs : List Byte) : Nat := bs.foldl (fun n b => n * 256 + b.toNat) 0

/-- The signed number of w bytes. -/
def ofBeInt (bs : List Byte) : Int :=
  let n := ofBe bs
  if 2 * n < 256 ^ bs.length then (n : Int) else (n : Int) - (256 ^ bs.length : Nat)

/-- A binary field of w bytes. -/
def Reader.nat (w : Nat) : Reader Nat := (Reader.raw w).map ofBe

/-- A binary field of w bytes with a range. -/
def Reader.natIn (w lo hi : Nat) : Reader Nat := (Reader.nat w).map id fun n => lo ≤ n && n ≤ hi

/-- A signed binary field of w bytes. -/
def Reader.int (w : Nat) : Reader Int := (Reader.raw w).map ofBeInt

/-- One byte. -/
def Reader.byte : Reader Byte := (Reader.raw 1).map fun bs => bs.headD 0

/-- A yes-or-no field: 00h or 01h. -/
def Reader.flag : Reader Bool := (Reader.nat 1).map (· == 1) (· ≤ 1)

/-- A digit field of n character codes. -/
def Reader.digits (n : Nat) : Reader Text := (Reader.raw n).map id allDigits

/-- A text field of lo to hi characters. -/
def Reader.text (lo hi : Nat) : Reader Text :=
  (Reader.nat 1).andThen fun n => (Reader.raw n).map id fun t => lo ≤ t.length && t.length ≤ hi

/-- An optional field. -/
def Reader.opt {α : Type} (p : Reader α) : Reader (Option α) := fun bs =>
  match bs with
  | [] => .length
  | b :: rest => if b = 0 then .ok none true rest else if b = 1 then (p.map some) rest else .bad

/-- n items one after another. -/
def Reader.times {α : Type} (p : Reader α) : Nat → Reader (List α)
  | 0 => Reader.pure []
  | n + 1 => p.andThen fun a => (Reader.times p n).map (a :: ·)

/-- A list of lo to hi items. -/
def Reader.list {α : Type} (lo hi : Nat) (p : Reader α) : Reader (List α) :=
  (Reader.natIn 1 lo hi).andThen (Reader.times p)

/-- A field that holds one name by its code. -/
def Reader.named {α : Type} (w : Nat) (ofCode : Nat → Option α) (other : α) : Reader α :=
  (Reader.nat w).map (fun n => (ofCode n).getD other) fun n => (ofCode n).isSome

/-- A reserved byte: its value is kept for the test of the message concerned. -/
def Reader.reserved : Reader Bool := Reader.byte.map (· == 0)

/-- A whole body: no byte may be left over. -/
def Reader.whole {α : Type} (p : Reader α) : Reader α := fun bs =>
  match p bs with
  | .ok a g [] => .ok a g []
  | .ok _ _ (_ :: _) => .length
  | .length => .length
  | .bad => .bad

/-- A body that is either well formed as a whole or nothing. -/
def Reader.wellFormed {α : Type} (p : Reader α) (bs : List Byte) : Option α :=
  match p.whole bs with
  | .ok a true _ => some a
  | _ => none

/-! ### Checks -/

/-- R2: the check byte of a loop frame, the two's complement of the sum of its bytes. -/
def loopCheck (bs : List Byte) : Byte := -(bs.foldl (· + ·) 0)

/-- R2: a frame to or from a station, address, kind, length, body and check. -/
def loopFrame (address kind : Nat) (body : List Byte) : List Byte :=
  let bs := by1 address ++ by1 kind ++ by1 body.length ++ body
  bs ++ [loopCheck bs]

/-- R1: a character of the loop line, its 11 bits in the order in which they are sent, bit 0 first and the mark level as 1: the start bit at
space, the data bits from the least significant, the mark bit, the stop bit at mark. -/
def loopBits (marked : Bool) (b : Byte) : BitVec 11 := 1#1 ++ BitVec.ofBool marked ++ b ++ 0#1

/-- R1: the 11 bits of a character as they are taken in. -/
def readLoopBits (w : BitVec 11) : LoopChar := { marked := w.getLsbD 9, data := w.extractLsb' 1 8, stopOk := w.getLsbD 10 }

/-- R1: a frame as it stands on the line, its first character marked and no other. -/
def frameBits (bytes : List Byte) : List (BitVec 11) := bytes.mapIdx fun i b => loopBits (i = 0) b

/-- R22: one bit into the register of x^16 + x^12 + x^5 + 1, bits least significant first. -/
def crcBit (r : BitVec 16) (b : Bool) : BitVec 16 :=
  if r.getLsbD 0 != b then (r >>> 1) ^^^ 0x8408#16 else r >>> 1

/-- R22: one byte, least significant bit first. -/
def crcByte (r : BitVec 16) (b : Byte) : BitVec 16 := (List.range 8).foldl (fun r i => crcBit r (b.getLsbD i)) r

/-- R22: the register after these bytes, preset to all ones. -/
def crc (bs : List Byte) : BitVec 16 := bs.foldl crcByte 0xFFFF#16

/-- The check sequence as it is sent, least significant byte first (spec 11, "Uplink block"). -/
def crcBytes (bs : List Byte) : List Byte :=
  let r := crc bs
  [BitVec.ofNat 8 r.toNat, BitVec.ofNat 8 (r.toNat / 256)]

/-! ### Codes of named values (spec 11; R206: the position in the owner's list, from 1, where none is given) -/

/-- The code of a name in a list of names, counting from 1; 0 for a name outside it. -/
def codeIn {α : Type} [DecidableEq α] (names : List α) (a : α) : Nat :=
  match names.findIdx? (· = a) with
  | some i => i + 1
  | none => 0

/-- The name with a code in a list of names, counting from 1. -/
def nameIn {α : Type} (names : List α) (n : Nat) : Option α := if n = 0 then none else names[n - 1]?

def LoopRate.bps : LoopRate → Nat
  | .bps2000000 => 2000000 | .bps1000000 => 1000000 | .bps500000 => 500000 | .bps250000 => 250000

def LoopRate.ofBps (n : Nat) : Option LoopRate :=
  [LoopRate.bps2000000, .bps1000000, .bps500000, .bps250000].find? fun r => r.bps = n

def LineRate.bps : LineRate → Nat
  | .bps2048000 => 2048000 | .bps1024000 => 1024000 | .bps256000 => 256000 | .bps128000 => 128000 | .bps64000 => 64000
  | .bps19200 => 19200 | .bps9600 => 9600

def LineRate.ofBps (n : Nat) : Option LineRate :=
  [LineRate.bps2048000, .bps1024000, .bps256000, .bps128000, .bps64000, .bps19200, .bps9600].find? fun r => r.bps = n

def roleNames : List Role := [.teller, .supervisor, .enquiry]
def classNames : List KindClass := [.enquiry, .account, .cashIn, .cashOut, .exchange, .toReserve, .fromReserve, .signOn,
  .signOff, .balance, .closeDrawer, .closeDay]
def denomKindNames : List DenomKind := [.note, .coin]
def fieldKindNames : List FieldKind := [.literal, .text, .amount, .count, .date]
def dateOrderNames : List DateOrder := [.dayFirst, .monthFirst, .yearFirst]
def stationStateNames : List StationState := [.absent, .present, .signed, .held, .test]
def linkNames : List LinkState := [.down, .sync, .up, .recovery]
def dayNames : List DayState := [.noDay, .opened, .closing, .closed, .sending, .suspended, .sent, .rejected, .failed]
def limitNames : List LimitState := [.low, .normal, .high, .over]
def portStateNames : List PortState := [.disabled, .notReady, .failed, .idle, .busy, .attention]
def dialogueNames : List Dialogue := [.none, .selecting, .waiting, .orderOut, .dataOut, .dataIn, .stateIn, .closeIn, .retryWait]
/-- The attention reasons of a port record (R126): none is the first position, so 01h (DESIGN CHOICE, assumption 17). -/
def attentionNames : List AttentionReason := [.none, .coverOpen, .paperJam]
def senseNames : List SenseCode := [.noBook, .stripeUnreadable, .stripeWriteFailed, .lineOutOfRange, .noLayout, .paperJam,
  .coverOpen, .badOrder, .reservedSet]
def orderNames : List OrderKind := [.setLayout, .readStripe, .printLine, .eject, .sense, .statusRequest]
def jobNames : List JobState := [.reading, .printing, .turnWait, .ending]
def lineKindNames : List LineKind := [.item, .summary]
def jkindNames : List JKind := [.transaction, .late, .mismatch, .drawerBalanced, .drawerClosed, .correction, .restart,
  .dayOpen, .passbookNotRecorded]
def resultNames : List Result := [.approved, .declined, .timedOut, .linkLost, .standIn, .late, .mismatch]
def alertNames : List AlertCode := [.refused, .approved, .declined, .mismatch, .timedOut, .timedOutInDoubt, .linkLost,
  .linkLostInDoubt, .standIn, .replyMismatch, .lateApproval, .standInDeclined, .drawerHigh, .drawerOver, .drawerLow,
  .printerBusy, .branchClosed, .stripeInvalid, .noEntries, .stripeNotUpdated, .bookFull, .accountInUse, .openPage, .turnPage,
  .bulletin]
def mgmtReasonNames : List MgmtReason := [.unknownCommand, .badLength, .reservedNonzero, .badTable, .badIndex, .badValue,
  .inUse, .wrongDayState, .busy, .journalFull]
def causeNames : List StartCause := [.powerUp, .resetPin]

/-- Block class codes (spec 11, "Uplink block"). -/
def blockClassNames : List BlockClass :=
  [.request, .reply, .mgmtCmd, .mgmtResp, .eodSeg, .eodAck, .eodNak, .hold, .release, .sync, .bulletin]

/-- The direction codes: IN 01h, OUT 02h (spec 11, "Request body from a station"). -/
def directionNames : List Direction := [.cashIn, .cashOut]

/-- Forward state codes: NONE 00h, UNFORWARDED 01h, FORWARDED 02h, FORWARD DECLINED 03h. -/
def Forward.code : Forward → Nat
  | .none => 0 | .unforwarded => 1 | .forwarded => 2 | .declined => 3

/-- Save outcome codes: WRITTEN 01h, NOT WRITTEN 02h, TOO LARGE 03h; none is 00h (assumption 17). -/
def SaveOutcome.code : SaveOutcome → Nat
  | .none => 0 | .written => 1 | .notWritten => 2 | .tooLarge => 3

end Sys2Proof.Machine
end

