-- ==== Sys2Proof/Machine/TableCodec.lean ====
section
/-! DEFINITION. Tables 1 to 10: the content of an entry as bytes both ways (spec 11), the BAD INDEX and BAD VALUE tests of
the owners' load rules, the defaults of R202, and the settings image (R200). -/

namespace Sys2Proof.Machine

/-! ### Table 1, branch parameters (R196) -/

/-- R102: a grouping character. -/
def groupingOk (b : Byte) : Bool :=
  32#8 ≤ b && b ≤ 126#8 && !isDigit b && b != code '-' && b != code '*' && b != code '?'

/-- R102: a decimal character. -/
def decimalOk (b : Byte) : Bool := groupingOk b && b != space

/-- R102: a date separator. -/
def separatorOk (b : Byte) : Bool := 32#8 ≤ b && b ≤ 126#8 && !isDigit b

/-- R14, R36, R40, R102, R127: whether the fields of a load of table 1 pass their owners' tests. The codes of the rates and of
the date order are judged as they are read. -/
def paramsOk (p : BranchParams) : Bool :=
  p.syncThreshold ≤ 15
  && (p.replyTimeout = 0 || (5 ≤ p.replyTimeout && p.replyTimeout ≤ 120))
  && p.floorLimit ≤ Config.maxTotal && p.budget ≤ Config.maxTotal
  && (match p.grouping with | none => true | some g => groupingOk g && g != p.decimalChar)
  && decimalOk p.decimalChar && separatorOk p.dateSeparator

def encParams (p : BranchParams) : List Byte :=
  be 3 p.loopRate.bps ++ flag p.fallbackDisable ++ be 2 p.branch ++ be 3 p.uplinkRate.bps ++ by1 p.syncThreshold
  ++ by1 p.replyTimeout ++ be 7 p.floorLimit ++ be 7 p.budget ++ flag p.standInEnable
  ++ [p.grouping.getD 0, p.decimalChar] ++ by1 (codeIn dateOrderNames p.dateOrder) ++ [p.dateSeparator, p.enables]

def readParams : Reader BranchParams :=
  (Reader.named 3 LoopRate.ofBps default).andThen fun loopRate =>
  Reader.flag.andThen fun fallbackDisable =>
  (Reader.nat 2).andThen fun branch =>
  (Reader.named 3 LineRate.ofBps default).andThen fun uplinkRate =>
  (Reader.nat 1).andThen fun syncThreshold =>
  (Reader.nat 1).andThen fun replyTimeout =>
  (Reader.nat 7).andThen fun floorLimit =>
  (Reader.nat 7).andThen fun budget =>
  Reader.flag.andThen fun standInEnable =>
  Reader.byte.andThen fun grouping =>
  Reader.byte.andThen fun decimalChar =>
  (Reader.named 1 (nameIn dateOrderNames) default).andThen fun dateOrder =>
  Reader.byte.andThen fun dateSeparator =>
  Reader.byte.map (fun enables =>
    { loopRate, fallbackDisable, branch, uplinkRate, syncThreshold, replyTimeout, floorLimit, budget, standInEnable
      grouping := if grouping = 0 then none else some grouping
      decimalChar, dateOrder, dateSeparator, enables })

/-! ### Table 2, station table (R4) -/

def stationEntryOk (e : StationEntry) : Bool :=
  (match e.drawer with | none => true | some d => 1 ≤ d && d ≤ 16) && e.bank ≤ 3
  && (match e.port with | none => true | some p => isPort p)

def encStationEntry (e : StationEntry) : List Byte :=
  by1 (codeIn roleNames e.role) ++ by1 (e.drawer.getD 0xFF) ++ by1 e.bank ++ by1 (e.port.getD 0)

def readStationEntry : Reader StationEntry :=
  (Reader.named 1 (nameIn roleNames) default).andThen fun role =>
  (Reader.nat 1).andThen fun drawer =>
  (Reader.nat 1).andThen fun bank =>
  (Reader.nat 1).map fun port =>
    { role, drawer := if drawer = 0xFF then none else some drawer, bank, port := if port = 0 then none else some port }

/-! ### Table 3, transaction kinds (R39) -/

/-- R39: the range of the format number, and the fields that contradict each other. -/
def kindEntryOk (k : KindEntry) : Bool :=
  1 ≤ k.localFormat && k.localFormat ≤ 96
  && !(k.forwarded && [KindClass.toReserve, .fromReserve, .signOff, .balance, .closeDrawer, .closeDay].contains k.cls)
  && !(!k.forwarded && k.cls = .signOn)
  && !(k.standIn && (!k.forwarded || k.cls = .signOn))

def encKindEntry (k : KindEntry) : List Byte :=
  by1 (codeIn classNames k.cls) ++ flag k.forwarded ++ flag k.standIn ++ flag k.supervisorOnly ++ flag k.passbook
  ++ by1 k.localFormat

def readKindEntry : Reader KindEntry :=
  (Reader.named 1 (nameIn classNames) default).andThen fun cls =>
  Reader.flag.andThen fun forwarded =>
  Reader.flag.andThen fun standIn =>
  Reader.flag.andThen fun supervisorOnly =>
  Reader.flag.andThen fun passbook =>
  (Reader.nat 1).map fun localFormat => { cls, forwarded, standIn, supervisorOnly, passbook, localFormat }

/-! ### Table 4, currencies (R66) -/

def isLetter (b : Byte) : Bool := 0x41#8 ≤ b && b ≤ 0x5A#8

def currencyOk (c : Currency) : Bool :=
  c.letters.length = 3 && c.letters.all isLetter && c.exponent ≤ 3 && 1 ≤ c.cashUnit && c.cashUnit ≤ 10000

def encCurrency (c : Currency) : List Byte := c.letters ++ by1 c.exponent ++ be 2 c.cashUnit

def readCurrency : Reader Currency :=
  (Reader.raw 3).andThen fun letters =>
  (Reader.nat 1).andThen fun exponent =>
  (Reader.nat 2).map fun cashUnit => { letters, exponent, cashUnit }

/-! ### Table 5, denomination lists (R67) -/

def denomsOk (l : List Denomination) : Bool :=
  l.length ≤ 12 && l.all (fun d => 1 ≤ d.face && d.face ≤ 100000000) && (l.map (·.face)).Nodup

def encDenoms (l : List Denomination) : List Byte :=
  encList (fun d => be 4 d.face ++ by1 (codeIn denomKindNames d.kind)) l

def readDenoms : Reader (List Denomination) :=
  Reader.list 0 12 ((Reader.nat 4).andThen fun face =>
    (Reader.named 1 (nameIn denomKindNames) default).map fun kind => { face, kind })

/-! ### Table 6, rates (R68) -/

def rateOk (i r : Nat) : Bool := 1 ≤ r && r ≤ 999999999999 && (i != 0 || r = 1000000)

/-! ### Table 7, drawer limits (R80) -/

def limitsOk (l : Limits) : Bool :=
  l.lo ≤ Config.maxTotal && l.hi ≤ Config.maxTotal && l.max ≤ Config.maxTotal && l.hyst ≤ Config.maxTotal
  && !(l.lo != 0 && l.hi != 0 && l.hi ≤ l.lo)
  && !(l.hi != 0 && l.max != 0 && l.max < l.hi)
  && !(l.lo != 0 && l.max != 0 && l.max ≤ l.lo)
  && !(l.hi != 0 && l.hi < l.hyst) && !(l.max != 0 && l.max < l.hyst)

def encLimits (l : Limits) : List Byte := be 7 l.lo ++ be 7 l.hi ++ be 7 l.max ++ be 7 l.hyst

def readLimits : Reader Limits :=
  (Reader.nat 7).andThen fun lo => (Reader.nat 7).andThen fun hi => (Reader.nat 7).andThen fun max =>
  (Reader.nat 7).map fun hyst => { lo, hi, max, hyst }

/-! ### Table 8, formats (R97, R98) -/

/-- R98: the width of a field entry, clipped at column 80. -/
def FieldEntry.width (e : FieldEntry) : Nat := min e.length (81 - e.column)

/-- R98: the screen row an entry is placed on. -/
def FieldEntry.screenRow (origin : Nat) (e : FieldEntry) : Nat := origin + e.row

/-- R98: whether an entry falls below row 23 and is dropped. -/
def FieldEntry.isDropped (origin : Nat) (e : FieldEntry) : Bool := 23 < e.screenRow origin

/-- Whether two entries share a cell (R97). -/
def FieldEntry.meets (a b : FieldEntry) : Bool :=
  a.row = b.row && a.column < b.column + b.width && b.column < a.column + a.width

/-- R97: whether two entries of a list share any cell. -/
def anyOverlap : List FieldEntry → Bool
  | [] => false
  | e :: es => es.any (FieldEntry.meets e) || anyOverlap es

/-- R97: a format as a load records it, with its overlap mark and dropped count. -/
def Format.make (origin : Nat) (entries : List FieldEntry) : Format :=
  { origin, entries
    overlap := anyOverlap (entries.filter fun e => !e.isDropped origin)
    dropped := (entries.filter fun e => e.isDropped origin).length }

def fieldEntryOk (e : FieldEntry) : Bool :=
  e.row ≤ 21 && 1 ≤ e.column && e.column ≤ 80 && 1 ≤ e.length && e.length ≤ 80 && e.attr ≤ 15
  && (match e.source with | .literal t => t.length ≤ 40 | .field n => 1 ≤ n && n ≤ 32)
  && (match e.currency with
      | none => e.kind != .amount
      | some c => e.kind = .amount && (match c with | .fixed i => i ≤ 11 | .field n => 1 ≤ n && n ≤ 32))

def formatOk (f : Format) : Bool :=
  2 ≤ f.origin && f.origin ≤ 23 && 1 ≤ f.entries.length && f.entries.length ≤ 40 && f.entries.all fieldEntryOk

/-- The source of an entry: the text of a LITERAL, or a field number. -/
def encSource : FieldSource → List Byte
  | .literal t => encText t
  | .field n => by1 n

/-- The currency source of an AMOUNT entry: a type byte, and an index or a field number. -/
def encCurrencySource : CurrencySource → List Byte
  | .fixed i => by1 1 ++ by1 i
  | .field n => by1 2 ++ by1 n

def encFieldEntry (e : FieldEntry) : List Byte :=
  by1 (codeIn fieldKindNames e.kind) ++ by1 e.row ++ by1 e.column ++ by1 e.length ++ by1 e.attr
  ++ encSource e.source ++ encOpt encCurrencySource e.currency

def encFormat (f : Format) : List Byte := by1 f.origin ++ encList encFieldEntry f.entries

/-- The source of an entry of a kind: a text for LITERAL, a field number for the others. A kind code that names no kind leaves
the layout of what follows unknown. -/
def readSource : Option FieldKind → Reader FieldSource
  | some .literal => (Reader.text 0 40).map .literal
  | some _ => (Reader.nat 1).map .field
  | none => fun _ => .bad

def readCurrencySource : Reader CurrencySource :=
  (Reader.natIn 1 1 2).andThen fun type => (Reader.nat 1).map fun n =>
    if type = 1 then CurrencySource.fixed n else .field n

def readFieldEntry : Reader FieldEntry :=
  (Reader.nat 1).andThen fun kind =>
  (Reader.nat 1).andThen fun row => (Reader.nat 1).andThen fun column => (Reader.nat 1).andThen fun length =>
  (Reader.nat 1).andThen fun attr =>
  (readSource (nameIn fieldKindNames kind)).andThen fun source =>
  (Reader.opt readCurrencySource).map fun currency =>
    { kind := (nameIn fieldKindNames kind).getD default, row, column, length, attr, source, currency }

def readFormat : Reader Format :=
  (Reader.nat 1).andThen fun origin => (Reader.list 1 40 readFieldEntry).map fun entries => Format.make origin entries

/-! ### Table 9, attribute banks (R95) -/

def encAttr (a : AttrRecord) : List Byte :=
  by1 (if a.bright then 2 else 1) ++ flag a.reverse ++ flag a.blink ++ flag a.underline ++ flag a.hidden

def readAttr : Reader AttrRecord :=
  (Reader.natIn 1 1 2).andThen fun i => Reader.flag.andThen fun reverse => Reader.flag.andThen fun blink =>
  Reader.flag.andThen fun underline => Reader.flag.map fun hidden => { bright := i = 2, reverse, blink, underline, hidden }

def encBank (b : Vector AttrRecord 16) : List Byte := encAll encAttr b.toList

def readBank : Reader (Vector AttrRecord 16) :=
  (Reader.times readAttr 16).map fun l => Vector.ofFn fun i : Fin 16 => (l[i.val]?).getD default

/-! ### Table 10, book layouts (R135) -/

/-- The summarisation threshold in force: 0 means 20 (R135). -/
def BookLayout.limit (b : BookLayout) : Nat := if b.threshold = 0 then 20 else b.threshold

/-- The usable lines of a page, in ascending order (R135). -/
def BookLayout.usable (b : BookLayout) : List Nat := (List.range' 1 b.linesPerPage).filter fun l => !b.skips.contains l

/-- The usable count (R135). -/
def BookLayout.usableCount (b : BookLayout) : Nat := b.usable.length

/-- R135: a column and width pair in range, ending at column 80 or before. -/
def itemOk (col width lo hi : Nat) : Bool := 1 ≤ col && col ≤ 80 && lo ≤ width && width ≤ hi && col + width ≤ 81

/-- Whether two items share no column (R135). -/
def apart (col width col' width' : Nat) : Bool := col + width ≤ col' || col' + width' ≤ col

def layoutOk (b : BookLayout) : Bool :=
  6 ≤ b.linesPerPage && b.linesPerPage ≤ 40 && 1 ≤ b.pagesPerBook && b.pagesPerBook ≤ 24
  && b.skips.length ≤ 4 && b.skips.all (fun l => 1 ≤ l && l ≤ b.linesPerPage) && b.skips.Nodup
  && itemOk b.dateCol b.dateWidth 8 10 && itemOk b.descCol b.descWidth 1 16
  && itemOk b.amountCol b.amountWidth 1 24 && itemOk b.balanceCol b.balanceWidth 1 24
  && apart b.dateCol b.dateWidth b.descCol b.descWidth && apart b.dateCol b.dateWidth b.amountCol b.amountWidth
  && apart b.dateCol b.dateWidth b.balanceCol b.balanceWidth && apart b.descCol b.descWidth b.amountCol b.amountWidth
  && apart b.descCol b.descWidth b.balanceCol b.balanceWidth && apart b.amountCol b.amountWidth b.balanceCol b.balanceWidth
  && (b.threshold = 0 || (4 ≤ b.threshold && b.threshold ≤ 40))

/-- The geometry of a layout as SET LAYOUT and table 10 carry it (spec 11). -/
def encGeometry (b : BookLayout) : List Byte :=
  by1 b.linesPerPage ++ by1 b.pagesPerBook ++ by1 b.skips.length
  ++ encAll by1 ((b.skips ++ List.replicate 4 0).take 4)
  ++ by1 b.dateCol ++ by1 b.dateWidth ++ by1 b.descCol ++ by1 b.descWidth ++ by1 b.amountCol ++ by1 b.amountWidth
  ++ by1 b.balanceCol ++ by1 b.balanceWidth

def encLayout (b : BookLayout) : List Byte := encGeometry b ++ by1 b.threshold

/-- An unused skip line slot must hold 00h (spec 11; assumption 18). -/
def readLayout : Reader BookLayout :=
  (Reader.nat 1).andThen fun linesPerPage => (Reader.nat 1).andThen fun pagesPerBook =>
  (Reader.natIn 1 0 4).andThen fun skipCount =>
  ((Reader.times (Reader.nat 1) 4).map id fun l => (l.drop skipCount).all (· == 0)).andThen fun slots =>
  (Reader.nat 1).andThen fun dateCol => (Reader.nat 1).andThen fun dateWidth =>
  (Reader.nat 1).andThen fun descCol => (Reader.nat 1).andThen fun descWidth =>
  (Reader.nat 1).andThen fun amountCol => (Reader.nat 1).andThen fun amountWidth =>
  (Reader.nat 1).andThen fun balanceCol => (Reader.nat 1).andThen fun balanceWidth =>
  (Reader.nat 1).map fun threshold =>
    { linesPerPage, pagesPerBook, skips := slots.take skipCount, dateCol, dateWidth, descCol, descWidth, amountCol
      amountWidth, balanceCol, balanceWidth, threshold }

/-! ### Defaults (R202) -/

def defaultParams : BranchParams :=
  { loopRate := .bps1000000, fallbackDisable := false, branch := 0, uplinkRate := .bps64000, syncThreshold := 3
    replyTimeout := 0, floorLimit := 0, budget := 0, standInEnable := false, grouping := some (code ',')
    decimalChar := code '.', dateOrder := .dayFirst, dateSeparator := code '.', enables := 0 }

/-- R202: every table at its default. -/
def Tables.defaults : Tables :=
  { params := defaultParams
    stations := Vector.replicate 24 { role := .teller, drawer := none, bank := 0, port := none }
    kinds := Vector.replicate 64 none
    currencies := Vector.replicate 12 none
    denoms := Vector.replicate 12 []
    rates := Vector.replicate 12 1000000
    limits := Vector.replicate 17 { lo := 0, hi := 0, max := 0, hyst := 0 }
    formats := Vector.replicate 96 none
    banks := Vector.replicate 4 (Vector.replicate 16
      { bright := false, reverse := false, blink := false, underline := false, hidden := false })
    layouts := Vector.replicate 8 none }

/-! ### Entries by number -/

/-- Station a's entry of table 2, counted from 1. -/
def Tables.station (t : Tables) (a : Nat) : StationEntry := look t.stations (a - 1)
/-- Kind k's entry of table 3, counted from 1; none outside 1 to 64 or when empty. -/
def Tables.kind (t : Tables) (k : Nat) : Option KindEntry := if k = 0 then none else look t.kinds (k - 1)
/-- Currency c's entry of table 4; none outside 0 to 11 or when empty. -/
def Tables.currency (t : Tables) (c : Nat) : Option Currency := look t.currencies c
/-- Currency c's denomination list. -/
def Tables.denom (t : Tables) (c : Nat) : List Denomination := look t.denoms c
/-- Currency c's rate number. -/
def Tables.rate (t : Tables) (c : Nat) : Nat := look t.rates c
/-- Drawer d's limits. -/
def Tables.limit (t : Tables) (d : Nat) : Limits := look t.limits d
/-- Format f, counted from 1; none outside 1 to 96 or when empty. -/
def Tables.format (t : Tables) (f : Nat) : Option Format := if f = 0 then none else look t.formats (f - 1)
/-- Attribute bank b. -/
def Tables.bank (t : Tables) (b : Nat) : Vector AttrRecord 16 := look t.banks b
/-- Book type k's layout. -/
def Tables.layout (t : Tables) (k : Nat) : Option BookLayout := look t.layouts k
/-- The summarisation threshold of a book type; 20 for an empty entry (R135). -/
def Tables.threshold (t : Tables) (k : Nat) : Nat := match t.layout k with | some b => b.limit | none => 20

/-- The loaded currency whose code is these letters (R66, R100). -/
def Tables.currencyByCode (t : Tables) (letters : Text) : Option Currency :=
  t.currencies.toList.findSome? fun c => match c with | some c => if c.letters = letters then some c else none | none => none

/-- The exponent of a currency; 0 for an empty entry. -/
def Tables.exponent (t : Tables) (c : Nat) : Nat := match t.currency c with | some c => c.exponent | none => 0

/-! ### The BAD VALUE tests that look at other entries (R66, R67) -/

/-- R66: a currency entry against the other entries as they stand. -/
def Tables.currencyFits (t : Tables) (i : Nat) (c : Currency) : Bool :=
  (i = 0 || (t.currency 0).isSome)
  && (indexed t.currencies).all fun (j, o) => j = i || (match o with | some o => o.letters != c.letters | none => true)

/-! ### The settings image (R200) -/

/-- An entry as the image holds it: a content byte, then the content (spec 11). -/
def encEntry : Option (List Byte) → List Byte
  | some content => 0 :: content
  | none => [1]

/-- R195: the content of an entry, none when it is empty; a list of no denomination is encoded as empty (assumption 31). -/
def Tables.content (t : Tables) (table i : Nat) : Option (List Byte) :=
  match table with
  | 1 => some (encParams t.params)
  | 2 => some (encStationEntry (t.station i))
  | 3 => (t.kind i).map encKindEntry
  | 4 => (t.currency i).map encCurrency
  | 5 => if t.denom i = [] then none else some (encDenoms (t.denom i))
  | 6 => some (be 5 (t.rate i))
  | 7 => some (encLimits (t.limit i))
  | 8 => (t.format i).map encFormat
  | 9 => some (encBank (t.bank i))
  | 10 => (t.layout i).map encLayout
  | _ => none

/-- R195: the entry numbers of a table, in order. -/
def tableEntries (table : Nat) : List Nat :=
  match table with
  | 1 => [1]
  | 2 => List.range' 1 24
  | 3 => List.range' 1 64
  | 4 => List.range 12
  | 5 => List.range 12
  | 6 => List.range 12
  | 7 => List.range 17
  | 8 => List.range' 1 96
  | 9 => List.range 4
  | 10 => List.range 8
  | _ => []

/-- R195: the tables whose entries may be empty. -/
def mayBeEmpty (table : Nat) : Bool := [3, 4, 5, 8, 10].contains table

/-- One table of the image: each entry in entry order. -/
def Tables.tableBytes (t : Tables) (table : Nat) : List Byte :=
  encAll (fun i => encEntry (t.content table i)) (tableEntries table)

/-- Tables 1 to 10 of the image. -/
def Tables.bytes (t : Tables) : List Byte := encAll t.tableBytes (List.range' 1 10)

/-- The validity mark's valid value (spec 11). -/
def validMark : List Byte := be 2 0x5AA5
/-- The validity mark written cleared (spec 11). -/
def clearedMark : List Byte := be 2 0

/-- The length of the whole image, from the validity mark to the last byte of table 10. -/
def Tables.imageLength (t : Tables) : Nat := 6 + t.bytes.length

/-- The check of the image, over the length and the tables (R200). -/
def imageCheck (length : Nat) (tables : List Byte) : List Byte := crcBytes (be 2 length ++ tables)

/-- The settings image: mark, length, check, tables. -/
def Tables.image (t : Tables) : List Byte :=
  validMark ++ be 2 t.imageLength ++ imageCheck t.imageLength t.bytes ++ t.bytes

/-- A content read, judged and taken: the reader's value, if it is in range and the test holds, put into the tables. -/
def takeEntry {α : Type} (r : Reader α) (ok : α → Bool) (set : α → Tables) (bs : List Byte) :
    Option (Tables × List Byte) :=
  match r bs with
  | .ok a true rest => if ok a then some (set a, rest) else none
  | _ => none

/-- R200: one entry of the image, judged by its owner's BAD VALUE tests against the entries already taken. -/
def takeImageEntry (t : Tables) (table i : Nat) : List Byte → Option (Tables × List Byte)
  | [] => none
  | b :: bs =>
    if b = 1 then (if mayBeEmpty table then some (t, bs) else none)
    else if b = 0 then
      match table with
      | 1 => takeEntry readParams paramsOk (fun p => { t with params := p }) bs
      | 2 => takeEntry readStationEntry stationEntryOk (fun e => { t with stations := put t.stations (i - 1) e }) bs
      | 3 => takeEntry readKindEntry kindEntryOk (fun k => { t with kinds := put t.kinds (i - 1) (some k) }) bs
      | 4 => takeEntry readCurrency (fun c => currencyOk c && t.currencyFits i c)
          (fun c => { t with currencies := put t.currencies i (some c) }) bs
      | 5 => takeEntry readDenoms (fun l => denomsOk l && (t.currency i).isSome)
          (fun l => { t with denoms := put t.denoms i l }) bs
      | 6 => takeEntry (Reader.nat 5) (rateOk i) (fun r => { t with rates := put t.rates i r }) bs
      | 7 => takeEntry readLimits limitsOk (fun l => { t with limits := put t.limits i l }) bs
      | 8 => takeEntry readFormat formatOk (fun f => { t with formats := put t.formats (i - 1) (some f) }) bs
      | 9 => takeEntry readBank (fun _ => true) (fun b => { t with banks := put t.banks i b }) bs
      | 10 => takeEntry readLayout layoutOk (fun l => { t with layouts := put t.layouts i (some l) }) bs
      | _ => none
    else none

/-- The (table, entry) pairs of the image, in table and entry order. -/
def imageEntries : List (Nat × Nat) := (List.range' 1 10).flatMap fun table => (tableEntries table).map fun i => (table, i)

/-- The entries of the image one after another, from the defaults; none as soon as one fails or bytes are left over. -/
def takeImageEntries (t : Tables) : List (Nat × Nat) → List Byte → Option Tables
  | [], bs => if bs = [] then some t else none
  | (table, i) :: es, bs =>
    match takeImageEntry t table i bs with
    | some (t', rest) => takeImageEntries t' es rest
    | none => none

/-- R200: the tables of a sound image; none when the image is not sound. -/
def readImage (memory : List Byte) : Option Tables :=
  let length := ofBe ((memory.drop 2).take 2)
  let tables := (memory.drop 6).take (length - 6)
  if memory.take 2 = validMark && 6 ≤ length && length ≤ Config.settingsBytes && length ≤ memory.length
      && (memory.drop 4).take 2 = imageCheck length tables then
    takeImageEntries Tables.defaults imageEntries tables
  else none

end Sys2Proof.Machine
end

