-- ==== Sys2Proof/Machine/Flags.lean ====
section
/-! DEFINITION. The conditions and marks the blocks judge from their own fields: limit states (R81), the error window and the
loop rate (R13, R14), the fallback rate (R29), the journal's room and warning (R160, R163), the freeze of the day (R164). -/

namespace Sys2Proof.Machine

/-- R81: the limit state evaluated from state `s` and position `p` against limits `l`; the rows of the table in order. -/
def evalLimit (l : Limits) (s : LimitState) (p : Nat) : LimitState :=
  if l.max ≠ 0 ∧ l.max < p then .over
  else if s = .over ∧ l.max ≠ 0 ∧ l.max - l.hyst < p then .over
  else if l.hi ≠ 0 ∧ l.hi < p then .high
  else if s = .high ∧ l.hi ≠ 0 ∧ l.hi - l.hyst < p then .high
  else if l.lo ≠ 0 ∧ p < l.lo then .low
  else if s = .low ∧ l.lo ≠ 0 ∧ p < l.lo + l.hyst then .low
  else .normal

/-- R14: the next lower loop rate; 250,000 bit/s has none. -/
def LoopRate.lower : LoopRate → Option LoopRate
  | .bps2000000 => some .bps1000000
  | .bps1000000 => some .bps500000
  | .bps500000 => some .bps250000
  | .bps250000 => none

/-- R29: the fallback of a primary rate; 9,600 bit/s has none. -/
def LineRate.fallback : LineRate → Option LineRate
  | .bps2048000 => some .bps1024000
  | .bps1024000 => some .bps256000
  | .bps256000 => some .bps128000
  | .bps128000 => some .bps64000
  | .bps64000 => some .bps19200
  | .bps19200 => some .bps9600
  | .bps9600 => none

/-- R13: a good answer to a POLL. At 512 both counts return to 0. -/
def Loop.countGood (l : Loop) : Loop :=
  if l.goodCount + 1 = 512 then { l with goodCount := 0, failCount := 0 } else { l with goodCount := l.goodCount + 1 }

/-- R14: a trip of the error window judges the rate. -/
def Loop.trip (fallbackDisable : Bool) (l : Loop) : Loop :=
  match fallbackDisable, l.rate.lower with
  | false, some r => { l with goodCount := 0, failCount := 0, rate := r, stepDowns := bump255 l.stepDowns }
  | _, _ => { l with goodCount := 0, failCount := 0 }

/-- R13: a POLL that ends in wrong address, framing error or check failure. At 32 failures the window trips. -/
def Loop.countFailure (fallbackDisable : Bool) (l : Loop) : Loop :=
  if l.failCount + 1 = 32 then l.trip fallbackDisable else { l with failCount := l.failCount + 1 }

/-- R66, R164: the day states in which the day is frozen, CLOSED and those after it. -/
def DayState.frozen : DayState → Bool
  | .closed | .sending | .suspended | .sent | .rejected | .failed => true
  | .noDay | .opened | .closing => false

/-- OPEN or CLOSING: the states in which jobs run, late approvals are journaled and entries are forwarded (R55, R60, R145). -/
def DayState.inBusiness : DayState → Bool
  | .opened | .closing => true
  | _ => false

/-- R47: whether an outstanding entry is a forward entry. -/
def OutEntry.isForward (e : OutEntry) : Bool := e.journalSeq.isSome

/-- R47: the non-forward entries of the outstanding request table. -/
def Router.stationEntries (r : Router) : List OutEntry := r.table.filter fun e => !e.isForward

/-- R47: the forward entries. -/
def Router.forwardEntries (r : Router) : List OutEntry := r.table.filter OutEntry.isForward

/-- R42, check 4; R4, R15: whether a station has a non-forward entry. -/
def Router.hasEntry (r : Router) (station : Nat) : Bool := r.table.any fun e => !e.isForward && e.station = station

/-- R69: the currency total T_c of a drawer, the sum of on-hand counts times face values. -/
def currencyTotal (denoms : List Denomination) (pieces : List Pieces) : Nat :=
  (List.zipWith (fun d p => d.face * p.onHand) denoms pieces).sum

/-- Whether a drawer holds a reserved count in any currency (R42, R86, R172). -/
def Drawer.hasReserved (d : Drawer) : Bool := d.currencies.toList.any fun c => c.pieces.any fun p => p.reserved != 0

/-- R66: whether a drawer holds a non-zero on-hand or reserved count of a currency. -/
def Drawer.holds (d : Drawer) (c : Nat) : Bool :=
  (look d.currencies c).pieces.any fun p => p.onHand != 0 || p.reserved != 0

/-- R86: the currencies of a drawer with a non-zero currency total and no balance record. -/
def Drawer.unbalancedCurrencies (t : Tables) (d : Drawer) : List Nat :=
  currencyNumbers.filter fun c =>
    currencyTotal (t.denom c) (look d.currencies c).pieces != 0 && (look d.currencies c).balance.isNone

/-- R160: the room in use, journal entries and non-forward outstanding entries. -/
def roomInUse (j : Journal) (r : Router) : Nat := j.entries.length + r.stationEntries.length

end Sys2Proof.Machine
end

