-- ==== Sys2Proof/Machine/Cold.lean ====
section
/-! DEFINITION. Each block as its cold start makes it (R19, R37, R64, R92, R114, R133, R155, R166, R190, R205). -/

namespace Sys2Proof.Machine

/-- R19: the Station Loop Controller. -/
def Loop.cold (p : BranchParams) : Loop :=
  { stations := Vector.replicate 24 { state := .absent, teller := none, misses := 0, frames := [] }
    goodCount := 0, failCount := 0, rate := p.loopRate, stepDowns := 0, cycle := 0, nextAddr := 1
    visit := none, test := none, sentFrames := [] }

def UplinkCounters.zero : UplinkCounters :=
  { goodBlocks := 0, checkErrors := 0, lengthErrors := 0, misaddressed := 0, unknownClass := 0, outOfState := 0
    overrunLost := 0, bursts := 0, silences := 0, recoveryFailures := 0, rateSwitches := 0, autoReleases := 0 }

/-- R37: the Uplink Controller. R37 does not name the good SYNC count of the recovery (assumption 48). -/
def Uplink.cold (p : BranchParams) : Uplink :=
  { link := .down, rate := p.uplinkRate, syncFailures := 0, firstSync := none
    attemptTimer := none, syncTimer := none, keepAliveTimer := none, silenceTimer := none, recoveryTimer := none
    holdTimer := none, recoverySyncs := 0, burstBlocks := 0, burstBad := 0, rx := [], control := [], data := []
    sending := none, lineOut := [], held := false, counters := UplinkCounters.zero }

def RouterCounters.zero : RouterCounters :=
  { malformed := 0, refusals := Vector.replicate 19 0, timedOut := 0, badReplies := 0, lateReplies := 0
    droppedLines := 0, standIns := 0, forwarded := 0, forwardDeclined := 0 }

/-- R64: the Transaction Router. -/
def Router.cold : Router :=
  { table := [], sequences := Vector.replicate 24 0, forwarderSeq := 0, unanswered := Vector.replicate 24 none
    setAside := [], counters := RouterCounters.zero }

/-- R92: a drawer's holding of one currency, every count 0. -/
def DrawerCurrency.zero (denoms : List Denomination) : DrawerCurrency :=
  { pieces := denoms.map fun _ => ⟨0, 0⟩, dayIn := 0, dayOut := 0, rounding := 0, balance := none }

/-- R92: a drawer, its limit state evaluated from NORMAL at position 0. -/
def Drawer.cold (t : Tables) (d : Nat) : Drawer :=
  { isOpen := false
    currencies := Vector.ofFn fun c : Fin 12 => DrawerCurrency.zero (t.denom c.val)
    baseIn := 0, baseOut := 0, standIn := 0, position := 0, limit := evalLimit (t.limit d) .normal 0
    overflow := false, unbalanced := false }

/-- R92: the 17 drawers. -/
def coldDrawers (t : Tables) : Vector Drawer 17 := Vector.ofFn fun d : Fin 17 => Drawer.cold t d.val

def PortCounters.zero : PortCounters :=
  { dialogues := 0, noAnswers := 0, aborts := 0, busies := 0, checks := 0, resets := 0, refused := 0, books := 0 }

/-- R133: a port record, DISABLED, its PORT RESET pulse running (R116). R133 does not name the positions of an order (assumption 48). -/
def Port.cold : Port :=
  { state := .disabled, dialogue := .none, order := none, poll := false, sensing := false, attempts := 0, senseAttempts := 0
    orderPos := 0, dataPos := 0, status := none, returned := [], overlong := false, loaded := none, bookSeen := false
    attention := .none, readinessLost := false, claimed := false, lastStatus := none, lastSense := none
    selectTimer := none, stepTimer := none, retryTimer := none, readyTimer := none, pollTimer := none
    pulseTimer := some Config.resetPulseMs, due := false, byteOut := none, counters := PortCounters.zero }

def PassbookCounters.zero : PassbookCounters :=
  { stored := 0, duplicates := 0, notRecorded := 0, summaries := 0, fullStore := 0, jobs := 0, stripeBad := 0
    linesPrinted := 0, failedJobs := 0 }

/-- R155: the Passbook Line Manager. -/
def Passbook.cold : Passbook :=
  { slots := Vector.replicate 512 none, jobs := Vector.replicate 8 none, settlements := Vector.replicate 8 none
    counters := PassbookCounters.zero }

/-- R166: the Journal. -/
def Journal.cold : Journal := { entries := [], counter := 0, unforwarded := 0, omitted := 0, warning := false }

/-- R190: the Day Close Unit. -/
def Day.cold : Day :=
  { state := .noDay, date := none, closePending := [], freeze := none, base := 1, pointer := 1, highest := 0, retries := 0
    timer := none, counters := { offered := 0, timeouts := 0, ignored := 0, losses := 0, resends := 0 } }

/-- R205: the Management Unit, with the cause of the cold start, the configured state its image read gives, and the settings
memory, which keeps its contents. The image length of the last save that wrote is 0 (assumption 17). -/
def Mgmt.cold (cause : StartCause) (configured : Bool) (memory : List Host.Cell) : Mgmt :=
  { inFlight := none, configured, unsaved := false, clock := 0, clockSet := false, lastSave := .none, lastLength := 0
    cause, warmStarts := 0, taken := 0, refusals := Vector.replicate 10 0, save := none, restart := none, memory }

/-- The status line of station a as a cold start forms it (R106, R114): NO DAY, DOWN, no teller, every port DISABLED. -/
def coldStatusRow (t : Tables) (drawers : Vector Drawer 17) (a : Nat) : Row :=
  let e := t.station a
  textRow 1 (statusText a none .noDay .down
    (e.drawer.map fun d => ⟨d, (look drawers d).limit⟩) (e.port.map fun p => ⟨p, .disabled⟩) false)

/-- R114: a station's screen, blank but for its status line, a READY pending. The first formation of the status line marks row 1
over its 80 changed cells (assumption 25). -/
def StationScreen.cold (statusRow : Row) : StationScreen :=
  { rows := put (Vector.replicate 24 blankRow) 0 statusRow
    dirty := put (Vector.replicate 24 none) 0 (some ⟨1, 80⟩)
    format := none, origin := 2, fields := [], pendingReady := true, alertsLost := 0, alerts := [] }

/-- R114: the Screen Composer. -/
def Composer.cold (t : Tables) (drawers : Vector Drawer 17) : Composer :=
  { screens := Vector.ofFn fun i : Fin 24 => StationScreen.cold (coldStatusRow t drawers (i.val + 1))
    bulletinText := none, bulletinNumber := 0, unknownFormat := 0, badBulletin := 0 }

end Sys2Proof.Machine
end

