-- ==== Sys2Proof/Machine/State.lean ====
section
/-! DEFINITION. The state of the Gelmar 2400: the queue of waiting commands, the pins, tables 1 to 10, and the state of each of
the ten blocks (spec 00, "Blocks and how they work together"); the stops; the state after reset. -/

namespace Sys2Proof.Machine

/-- The whole part. `pending` is the queue of commands that wait, first in first out; `free` counts the free values drawn
(assumption 14); every other field is the spec's, by block. -/
structure State where
  pending  : List Instr
  phase    : Phase
  carrier  : Bool
  free     : Nat
  tables   : Tables
  loop     : Loop
  uplink   : Uplink
  router   : Router
  drawers  : Vector Drawer 17
  composer : Composer
  ports    : Vector Port 8
  passbook : Passbook
  journal  : Journal
  day      : Day
  mgmt     : Mgmt
  deriving DecidableEq, Repr

/-- Why the machine stops with a fault: the spec gives every command an effect in every state, so there is no fault. -/
inductive Fault where
  deriving DecidableEq, Repr

/-- Why a command has no meaning. -/
inductive Refusal where
  /-- Raised by an arm of `exec` alone, for a command that has no meaning yet; safe, since nothing is claimed of it. No arm
  answers with it. -/
  | notModelled (mnemonic : String)
  deriving DecidableEq, Repr

/-- The part as a cold start with these tables leaves it before start-up has finished (R202): every block at its cold start. -/
def State.cold (pending : List Instr) (carrier : Bool) (free : Nat) (t : Tables) (mgmt : Mgmt) (phase : Phase) : State :=
  { pending, phase, carrier, free, tables := t
    loop := Loop.cold t.params
    uplink := Uplink.cold t.params
    router := Router.cold
    drawers := coldDrawers t
    composer := Composer.cold t (coldDrawers t)
    ports := Vector.replicate 8 Port.cold
    passbook := Passbook.cold
    journal := Journal.cold
    day := Day.cold
    mgmt }

/-- R202: the part right after reset, its cold start at power-up finished with no sound settings image, nothing waiting, CARRIER
released (assumption 10). -/
def State.reset : State :=
  State.cold [] false 0 Tables.defaults (Mgmt.cold .powerUp false []) .running

end Sys2Proof.Machine
end

