-- ==== Sys2Proof/Machine/Blocks.lean ====
section
/-! DEFINITION. The ten blocks inside the state: one update for each block, and the accessors for the numbered things the blocks
hold (stations, ports, drawers, screens, slots, jobs). -/

namespace Sys2Proof.Machine

def State.onTables (f : Tables → Tables) (s : State) : State := { s with tables := f s.tables }
def State.onLoop (f : Loop → Loop) (s : State) : State := { s with loop := f s.loop }
def State.onUplink (f : Uplink → Uplink) (s : State) : State := { s with uplink := f s.uplink }
def State.onRouter (f : Router → Router) (s : State) : State := { s with router := f s.router }
def State.onDrawers (f : Vector Drawer 17 → Vector Drawer 17) (s : State) : State := { s with drawers := f s.drawers }
def State.onComposer (f : Composer → Composer) (s : State) : State := { s with composer := f s.composer }
def State.onPorts (f : Vector Port 8 → Vector Port 8) (s : State) : State := { s with ports := f s.ports }
def State.onPassbook (f : Passbook → Passbook) (s : State) : State := { s with passbook := f s.passbook }
def State.onJournal (f : Journal → Journal) (s : State) : State := { s with journal := f s.journal }
def State.onDay (f : Day → Day) (s : State) : State := { s with day := f s.day }
def State.onMgmt (f : Mgmt → Mgmt) (s : State) : State := { s with mgmt := f s.mgmt }

/-- Station a's record (R5), a from 1 to 24. -/
def State.station (s : State) (a : Nat) : StationRec := look s.loop.stations (a - 1)
/-- Station a's record changed. -/
def State.onStation (a : Nat) (f : StationRec → StationRec) (s : State) : State :=
  s.onLoop fun l => { l with stations := put l.stations (a - 1) (f (look l.stations (a - 1))) }

/-- Station a's screen (R94), a from 1 to 24. -/
def State.screen (s : State) (a : Nat) : StationScreen := s.composer.screens.getD (a - 1) (StationScreen.cold blankRow)
/-- Station a's screen changed. -/
def State.onScreen (a : Nat) (f : StationScreen → StationScreen) (s : State) : State :=
  s.onComposer fun c => { c with screens := put c.screens (a - 1) (f (s.screen a)) }

/-- Port p's record (R126), p from 1 to 8. -/
def State.port (s : State) (p : Nat) : Port := look s.ports (p - 1)
/-- Port p's record changed. -/
def State.onPort (p : Nat) (f : Port → Port) (s : State) : State :=
  s.onPorts fun v => put v (p - 1) (f (look v (p - 1)))

/-- Drawer d's record (R69), d from 0 to 16. -/
def State.drawer (s : State) (d : Nat) : Drawer := look s.drawers d
/-- Drawer d's record changed. -/
def State.onDrawer (d : Nat) (f : Drawer → Drawer) (s : State) : State :=
  s.onDrawers fun v => put v d (f (look v d))

/-- Port p's print job record (R144). -/
def State.job (s : State) (p : Nat) : Option Job := look s.passbook.jobs (p - 1)
/-- Port p's print job record set. -/
def State.setJob (p : Nat) (j : Option Job) (s : State) : State :=
  s.onPassbook fun b => { b with jobs := put b.jobs (p - 1) j }

/-- The branch parameters (R196). -/
def State.params (s : State) : BranchParams := s.tables.params

/-- The stations whose station table entry names a drawer (R82). -/
def State.stationsOfDrawer (s : State) (d : Nat) : List Nat :=
  stationNumbers.filter fun a => (s.tables.station a).drawer = some d

/-- The stations whose station table entry names a printer port (R106, R107). -/
def State.stationsOfPort (s : State) (p : Nat) : List Nat :=
  stationNumbers.filter fun a => (s.tables.station a).port = some p

/-- The stations whose role is SUPERVISOR, whatever their state (R107). -/
def State.supervisors (s : State) : List Nat :=
  stationNumbers.filter fun a => (s.tables.station a).role = .supervisor

end Sys2Proof.Machine
end

