-- ==== Sys2Proof/Machine/Screen.lean ====
section
/-! DEFINITION. The Screen Composer: changes and dirty marks (R94, R111), the status line (R106), alerts (R107, R108), formats
written out (R98 to R101), windows (R104), what a completion and a refusal compose (R103, R105), and the frames handed to the
station loop (R95, R111). -/

namespace Sys2Proof.Machine

/-! ### Rows and dirty marks -/

/-- Row r of a screen, r from 1 to 24. -/
def StationScreen.row (sc : StationScreen) (r : Nat) : Row := sc.rows.getD (r - 1) blankRow
/-- The dirty span of row r. -/
def StationScreen.dirtySpan (sc : StationScreen) (r : Nat) : Option Span := look sc.dirty (r - 1)

/-- R111: row r marked dirty over columns a to b, widening a span it already has. -/
def StationScreen.mark (r a b : Nat) (sc : StationScreen) : StationScreen :=
  { sc with dirty := put sc.dirty (r - 1) (some (match sc.dirtySpan r with
      | some sp => ⟨min sp.first a, max sp.last b⟩
      | none => ⟨a, b⟩)) }

/-- The columns, from 1, at which two rows differ (R94). -/
def changedColumns (old new : Row) : List Nat :=
  (List.range' 1 80).filter fun c => old.getD (c - 1) blankCell ≠ new.getD (c - 1) blankCell

/-- R94, R104: a row written; it is marked dirty from its first to its last changed cell, or not at all. -/
def StationScreen.writeRow (r : Nat) (new : Row) (sc : StationScreen) : StationScreen :=
  let cols := changedColumns (sc.row r) new
  match cols.head?, cols.getLast? with
  | some a, some b => { (sc.mark r a b) with rows := put sc.rows (r - 1) new }
  | _, _ => sc

/-- R95, R112: every row marked dirty over columns 1 to 80. -/
def StationScreen.markAll (sc : StationScreen) : StationScreen :=
  { sc with dirty := Vector.replicate 24 (some ⟨1, 80⟩) }

/-- How many rows are dirty (R96). -/
def StationScreen.dirtyCount (sc : StationScreen) : Nat := (sc.dirty.toList.filter Option.isSome).length

/-! ### The status line (R106) -/

/-- R106: the status line of station a from its sources as they stand. -/
def State.statusRow (s : State) (a : Nat) : Row :=
  let e := s.tables.station a
  textRow 1 (statusText a (s.station a).teller s.day.state s.uplink.link
    (e.drawer.map fun d => ⟨d, (s.drawer d).limit⟩) (e.port.map fun p => ⟨p, (s.port p).state⟩) s.journal.warning)

/-- R106: the status line of station a formed again. -/
def State.refreshStatus (a : Nat) (s : State) : State := s.onScreen a (StationScreen.writeRow 1 (s.statusRow a))

/-- R106: the status lines of several stations formed again. -/
def State.refreshStatuses (l : List Nat) (s : State) : State := l.foldl (fun s a => s.refreshStatus a) s

/-- R106: the status line of every station formed again. -/
def State.refreshAllStatus (s : State) : State := s.refreshStatuses stationNumbers

/-! ### Alerts (R107, R108) -/

/-- Row 24 as the head of the alert queue gives it (R107, R108). -/
def alertRow (bulletin : Option Text) : List Alert → Row
  | [] => blankRow
  | a :: _ => textRow 2 (alertText bulletin a)

/-- Row 24 formed again. -/
def StationScreen.refreshAlert (bulletin : Option Text) (sc : StationScreen) : StationScreen :=
  sc.writeRow 24 (alertRow bulletin sc.alerts)

/-- R108: an alert of a code already waiting takes the new parameter in its place. -/
def replaceParam (a : Alert) (l : List Alert) : List Alert :=
  l.map fun b => if b.alert = a.alert then a else b

/-- R108: an alert joins the queue. -/
def StationScreen.joinAlert (bulletin : Option Text) (a : Alert) (sc : StationScreen) : StationScreen :=
  let sc :=
    if sc.alerts.any fun b => b.alert = a.alert then { sc with alerts := replaceParam a sc.alerts }
    else if sc.alerts.length < Config.alertCapacity then { sc with alerts := sc.alerts ++ [a] }
    else { sc with alerts := sc.alerts.eraseIdx 1 ++ [a], alertsLost := bump255 sc.alertsLost }
  sc.refreshAlert bulletin

/-- R108: an alert given to a station. -/
def State.giveAlert (a : Nat) (al : Alert) (s : State) : State :=
  s.onScreen a (StationScreen.joinAlert s.composer.bulletinText al)

/-- An alert given to several stations, in order. -/
def State.giveAlerts (l : List Nat) (al : Alert) (s : State) : State := l.foldl (fun s a => s.giveAlert a al) s

/-- R110: the alert at the head of a station's queue is removed and the next is shown; an empty queue stays. -/
def State.acknowledgeAlert (a : Nat) (s : State) : State :=
  match (s.screen a).alerts with
  | [] => s
  | _ :: rest => s.onScreen a fun sc => { sc with alerts := rest }.refreshAlert s.composer.bulletinText

/-- R109: a bulletin text: empty or beyond 80 characters it is discarded and counted; otherwise it is the latest bulletin, every
station whose BULLETIN alert is shown has row 24 formed again, and every SIGNED station is given a BULLETIN alert. -/
def State.takeBulletin (t : Text) (s : State) : State :=
  if t.length = 0 ∨ 80 < t.length then s.onComposer fun c => { c with badBulletin := bump c.badBulletin }
  else
    let n := (s.composer.bulletinNumber + 1) % 65536
    let s := s.onComposer fun c => { c with bulletinText := some t, bulletinNumber := n }
    let shown := stationNumbers.filter fun a => (s.screen a).alerts.head?.map Alert.alert = some .bulletin
    let s := shown.foldl (fun s a => s.onScreen a (StationScreen.refreshAlert (some t))) s
    s.giveAlerts (stationNumbers.filter fun a => (s.station a).state = .signed) ⟨.bulletin, n⟩

/-! ### Formats written out (R98 to R101) -/

/-- A field value of a context or reply; none when it is absent. -/
def fieldValue (fields : List (Nat × Text)) (n : Nat) : Option Text := (fields.find? fun f => f.1 = n).map Prod.snd

/-- R100: the currency of an AMOUNT entry. -/
def amountCurrency (t : Tables) (fields : List (Nat × Text)) : Option CurrencySource → Option Currency
  | some (.fixed i) => t.currency i
  | some (.field n) => (fieldValue fields n).bind t.currencyByCode
  | none => none

/-- The source of an entry: its own text for a LITERAL, the value of its field for the others. -/
def FieldEntry.value (fields : List (Nat × Text)) (e : FieldEntry) : Option Text :=
  match e.source with
  | .literal t => some t
  | .field n => fieldValue fields n

/-- R99 to R101: what an entry writes into its width; none when its source is absent. The source of a DATE entry is judged before its width:
one that is no real date gives '?' in a width below 10 too (assumption 46). -/
def entryText (t : Tables) (fields : List (Nat × Text)) (e : FieldEntry) : Option Text :=
  (e.value fields).map fun v =>
    match e.kind with
    | .literal | .text => placeLeft e.width v
    | .amount =>
      match readNumber v, amountCurrency t fields e.currency with
      | some n, some c => placeRight e.width (amountText t.params.grouping t.params.decimalChar c.exponent n)
      | _, _ => fill e.width (code '?')
    | .count =>
      match readCount v with
      | some n => placeRight e.width (group t.params.grouping (decimal n))
      | none => fill e.width (code '?')
    | .date =>
      match readDate v with
      | some (y, m, d) =>
        if e.width < 10 then fill e.width (code '*')
        else placeLeft e.width (dateText t.params.dateOrder t.params.dateSeparator (four y) m d)
      | none => fill e.width (code '?')

/-- R98: an entry's cells written over a row. -/
def writeCells (col attr : Nat) (t : Text) (row : Row) : Row :=
  Vector.ofFn fun i : Fin 80 =>
    if col ≤ i.val + 1 ∧ i.val + 1 < col + t.length then ⟨(t[i.val + 1 - col]?).getD space, attr⟩
    else row.getD i.val blankCell

/-- R98, R104: row r of a window composed from a format: blank, then the entries placed on it in list order. -/
def windowRow (t : Tables) (f : Format) (fields : List (Nat × Text)) (r : Nat) : Row :=
  f.entries.foldl (fun row e =>
    if e.screenRow f.origin = r then
      match entryText t fields e with
      | some v => writeCells e.column e.attr v row
      | none => row
    else row) blankRow

/-- The window rows 2 to 23. -/
def windowRows : List Nat := List.range' 2 22

/-- R104: the window composed with format n, and the context set. -/
def StationScreen.compose (t : Tables) (n : Nat) (f : Format) (fields : List (Nat × Text)) (sc : StationScreen) :
    StationScreen :=
  let sc := windowRows.foldl (fun sc r => sc.writeRow r (windowRow t f fields r)) sc
  { sc with format := some n, origin := f.origin, fields }

/-- R104, R115: rows 2 to 23 written blank and the context cleared, with the window origin 2. -/
def StationScreen.blankWindow (sc : StationScreen) : StationScreen :=
  let sc := windowRows.foldl (fun sc r => sc.writeRow r blankRow) sc
  { sc with format := none, origin := 2, fields := [] }

/-- R104: after a load of format n, the windows of the stations that show it, in station order. -/
def State.recompose (n : Nat) (s : State) : State :=
  stationNumbers.foldl (fun s a =>
    if (s.screen a).format = some n then
      match s.tables.format n with
      | some f => s.onScreen a fun sc => sc.compose s.tables n f sc.fields
      | none => s.onScreen a StationScreen.blankWindow
    else s) s

/-! ### Completions and refusals (R103, R105) -/

/-- R96: a READY set pending. -/
def State.setReady (a : Nat) (s : State) : State := s.onScreen a fun sc => { sc with pendingReady := true }

/-- R105: a refusal notice. -/
def State.composeRefusal (a : Nat) (r : Reason) (s : State) : State :=
  (s.giveAlert a ⟨.refused, r.number⟩).setReady a

/-- R103, R107: the result alert of a completion. -/
def resultAlert (result : Result) (reason : Option Nat) (inDoubt : Bool) (sequence : Nat) : Alert :=
  match result with
  | .approved => ⟨.approved, sequence⟩
  | .declined => ⟨.declined, reason.getD 0⟩
  | .timedOut => ⟨if inDoubt then .timedOutInDoubt else .timedOut, sequence⟩
  | .linkLost => ⟨if inDoubt then .linkLostInDoubt else .linkLost, sequence⟩
  | .standIn => ⟨.standIn, sequence⟩
  | .late => ⟨.lateApproval, sequence⟩
  | .mismatch => ⟨.mismatch, sequence⟩

/-- R103: a completion composed. `format` is the format used with its field values, if any; otherwise, or when that format is
empty, the window stays and the result alert is placed. A READY is then set pending. -/
def State.composeCompletion (a : Nat) (format : Option (Nat × List (Nat × Text))) (alert : Alert) (s : State) : State :=
  let s := match format with
    | some (n, fields) =>
      match s.tables.format n with
      | some f => s.onScreen a (StationScreen.compose s.tables n f fields)
      | none => (s.onComposer fun c => { c with unknownFormat := bump c.unknownFormat }).giveAlert a alert
    | none => s.giveAlert a alert
  s.setReady a

/-- R103: the local field set of a local, branch-only or stand-in completion. -/
def localFields (t : Tables) (account : Option Text) (legs : List JLeg) (standIn : Bool) (sequence time : Nat) :
    List (Nat × Text) :=
  let leg (n i : Nat) : List (Nat × Text) :=
    match legs[i]? with
    | some l => [(n, decimal l.cash), (n + 1, match t.currency l.currency with | some c => c.letters | none => [])]
    | none => []
  (match account with | some x => [(1, x)] | none => []) ++ leg 2 0 ++ leg 4 1
  ++ [(6, if standIn then text "STAND-IN" else text "APPROVED"), (7, decimal sequence), (8, timeText time)]

/-! ### Frames for the station loop (R95, R111) -/

/-- R95, spec 11: the display attribute index of an attribute record. -/
def AttrRecord.displayIndex (r : AttrRecord) : Nat :=
  (if r.bright then 1 else 0) + (if r.reverse then 2 else 0) + (if r.blink then 4 else 0)
  + (if r.underline then 8 else 0) + (if r.hidden then 16 else 0)

/-- R2, R95: the WRITE ROW frame of a row span, as the cells stand at the hand-over. -/
def State.writeRowFrame (s : State) (a r : Nat) (sp : Span) : List Byte :=
  let bank := s.tables.bank (s.tables.station a).bank
  let cells := (List.range' sp.first (sp.last + 1 - sp.first)).map fun c => ((s.screen a).row r).getD (c - 1) blankCell
  loopFrame a 0x11 (by1 r ++ by1 sp.first ++ encAll (fun c => c.char :: by1 (look bank c.attr).displayIndex) cells)

/-- R111: the row to be handed over: row 1, then row 24, then the lowest dirty row of 2 to 23. -/
def StationScreen.nextRow (sc : StationScreen) : Option (Nat × Span) :=
  (1 :: 24 :: windowRows).findSome? fun r => (sc.dirtySpan r).map fun sp => (r, sp)

/-- R111: the station's next outgoing frame, as a visit frame and as bytes, with its dirty mark or pending READY cleared. -/
def State.nextFrame (a : Nat) (s : State) : Option (VisitFrame × List Byte) × State :=
  match (s.screen a).nextRow with
  | some (r, sp) =>
    (some (.row r sp.first sp.last, s.writeRowFrame a r sp),
     s.onScreen a fun sc => { sc with dirty := put sc.dirty (r - 1) none })
  | none =>
    if (s.screen a).pendingReady then
      (some (.ready, loopFrame a 0x12 []), s.onScreen a fun sc => { sc with pendingReady := false })
    else (none, s)

/-- R8, R111: a frame handed back: its row dirty again over its span, or its READY pending again. -/
def StationScreen.handBack (sc : StationScreen) : VisitFrame → StationScreen
  | .row r a b => sc.mark r a b
  | .ready => { sc with pendingReady := true }

/-- R8, R9: every visit frame of a station handed back and the list emptied. -/
def State.handBackFrames (a : Nat) (s : State) : State :=
  (s.onScreen a fun sc => (s.station a).frames.foldl StationScreen.handBack sc).onStation a fun r => { r with frames := [] }

end Sys2Proof.Machine
end

