-- ==== Sys2Proof/Machine/JournalOps.lean ====
section
/-! DEFINITION. The Journal: writes and their sequences (R157), conditional writes (R161), forward states (R162), the warning
(R163) and the clearing at OPEN DAY (R164). -/

namespace Sys2Proof.Machine

/-- An entry of a kind with nothing optional present (R158); its sequence and time are set by the write. -/
def JEntry.ofKind (k : JKind) : JEntry :=
  { sequence := 0, time := 0, kind := k, station := none, teller := none, drawer := none, txKind := none, account := none
    result := none, reason := none, legs := [], reference := none, forward := .none, detail := none }

/-- R157: an entry written, with the next sequence and the branch clock; R162: the UNFORWARDED count; R163: the warning. -/
def Journal.write (clock : Nat) (e : JEntry) (j : Journal) : Journal :=
  { entries := j.entries ++ [{ e with sequence := j.counter + 1, time := clock }]
    counter := j.counter + 1
    unforwarded := if e.forward = .unforwarded then j.unforwarded + 1 else j.unforwarded
    omitted := j.omitted
    warning := j.warning || j.entries.length + 1 = Config.journalWarning }

/-- R157, R163: an entry written and its sequence returned; the status lines are told when the warning comes on. -/
def State.journalWrite (e : JEntry) (s : State) : State × Nat :=
  let s' := s.onJournal (Journal.write s.mgmt.clock e)
  (if s.journal.warning = s'.journal.warning then s' else s'.refreshAllStatus, s'.journal.counter)

/-- R161: a conditional write, made when the room in use is below 16,384, or else counted as omitted. -/
def State.journalOffer (e : JEntry) (s : State) : State × Option Nat :=
  if roomInUse s.journal s.router < Config.journalCapacity then
    ((s.journalWrite e).1, some (s.journalWrite e).2)
  else (s.onJournal fun j => { j with omitted := bump j.omitted }, none)

/-- R160: whether an admitted write finds room: the room in use plus one is at most 16,384. -/
def State.journalRoom (s : State) : Bool := roomInUse s.journal s.router + 1 ≤ Config.journalCapacity

/-- R162: the forward state of the UNFORWARDED entry with a sequence changed, and the count lowered. -/
def Journal.setForward (sequence : Nat) (f : Forward) (j : Journal) : Journal :=
  if j.entries.any fun e => e.sequence = sequence ∧ e.forward = .unforwarded then
    { j with
      entries := j.entries.map fun e => if e.sequence = sequence then { e with forward := f } else e
      unforwarded := j.unforwarded - 1 }
  else j

/-- The entry with a sequence. -/
def Journal.entry (j : Journal) (sequence : Nat) : Option JEntry := j.entries.find? fun e => e.sequence = sequence

/-- R164: the journal cleared at OPEN DAY, then the DAY OPEN entry written. -/
def State.openJournal (date : Text) (s : State) : State :=
  let warned := s.journal.warning
  let s := s.onJournal fun _ => Journal.cold
  let s := if warned then s.refreshAllStatus else s
  (s.journalWrite { JEntry.ofKind .dayOpen with detail := some (.dayOpen date) }).1

end Sys2Proof.Machine
end

