-- ==== Sys2Proof/Machine/Cash.lean ====
section
/-! DEFINITION. The Cash Totals Unit: base reckoning (R70), cash rounding (R71), reservations and releases (R73, R74), posting
(R75, R76), positions (R78), limit evaluations and their notices (R79, R81, R82), balancing, closing and corrections (R85 to
R87, R89), and the opening of the day (R90). -/

namespace Sys2Proof.Machine

/-! ### Arithmetic -/

/-- R70: the scale m = 6 + e_c - e_b of a currency. -/
def Tables.scale (t : Tables) (c : Nat) : Nat := 6 + t.exponent c - t.exponent 0

/-- R70: a magnitude times a rate number over 10^m, an exact half away from zero, before any cap. -/
def reckonExact (m rate x : Nat) : Nat := (x * rate + 10 ^ m / 2) / 10 ^ m

/-- R70: a value in minor units of currency c in base minor units, and whether it was capped. -/
def Tables.reckon (t : Tables) (c x : Nat) : Nat × Bool :=
  let r := reckonExact (t.scale c) (t.rate c) x
  (min r Config.maxTotal, Config.maxTotal < r)

/-- R70 for a signed value: the negative of the result for its magnitude. -/
def Tables.reckonInt (t : Tables) (c : Nat) (x : Int) : Int × Bool :=
  let r := t.reckon c x.natAbs
  (if x < 0 then -(r.1 : Int) else r.1, r.2)

/-- R71: the cash amount C, the multiple of q nearest to A, a tie to the higher. -/
def cashRound (q a : Nat) : Nat := q * ((2 * a + q) / (2 * q))

/-- R71: the rounding result of a leg. -/
def roundingResult (dir : Direction) (a c : Nat) : Int :=
  match dir with
  | .cashOut => (a : Int) - c
  | .cashIn => (c : Int) - a

/-- R75: a total with an addition, stopping at its limit, and whether it stopped. -/
def addTotal (total x : Nat) : Nat × Bool := (min (total + x) Config.maxTotal, Config.maxTotal < total + x)

/-- R75: a signed total with an addition, stopping at either limit, and whether it stopped. -/
def addSigned (total x : Int) : Int × Bool :=
  let r := total + x
  (max (-(Config.maxTotal : Int)) (min r Config.maxTotal), r < -(Config.maxTotal : Int) || (Config.maxTotal : Int) < r)

/-- The breakdown's sum of count times face value (R43, check 10). -/
def pairsValue (denoms : List Denomination) (pairs : List Pair) : Nat :=
  (pairs.map fun p => (denoms.getD p.denom default).face * p.count).sum

/-! ### Counts -/

/-- The pieces of one denomination changed. -/
def onPieces (i : Nat) (f : Pieces → Pieces) (l : List Pieces) : List Pieces := l.modify i f

/-- A drawer's holding of one currency changed. -/
def Drawer.onCurrency (c : Nat) (f : DrawerCurrency → DrawerCurrency) (d : Drawer) : Drawer :=
  { d with currencies := put d.currencies c (f (look d.currencies c)) }

/-- R73: the counts of a leg added to the reserved counts. -/
def Drawer.reserve (l : Leg) (d : Drawer) : Drawer :=
  d.onCurrency l.currency fun h => { h with
    pieces := l.pairs.foldl (fun ps p => onPieces p.denom (fun x => { x with reserved := x.reserved + p.count }) ps) h.pieces }

/-- R74: the counts of a leg subtracted from the reserved counts. -/
def Drawer.unreserve (l : Leg) (d : Drawer) : Drawer :=
  d.onCurrency l.currency fun h => { h with
    pieces := l.pairs.foldl (fun ps p => onPieces p.denom (fun x => { x with reserved := x.reserved - p.count }) ps) h.pieces }

/-- R75: pieces taken out of a denomination. -/
def takeOut (n : Nat) (x : Pieces) : Pieces := { x with onHand := x.onHand - n }

/-- R75: pieces put into a denomination; a count stops at 9,999,999. -/
def putIn (n : Nat) (x : Pieces) : Pieces := { x with onHand := min (x.onHand + n) Config.maxPieces }

/-- R75: whether putting pieces in would pass 9,999,999. -/
def putInStops (pairs : List Pair) (ps : List Pieces) : Bool :=
  pairs.any fun p => Config.maxPieces < (ps.getD p.denom default).onHand + p.count

/-- R75, R76: a leg moved into or out of a drawer, with its totals, its base equivalent E and the cash movement. -/
def Drawer.move (dir : Direction) (l : Leg) (e : Nat) (capped : Bool) (d : Drawer) : Drawer :=
  let h := look d.currencies l.currency
  let stops := dir = .cashIn && putInStops l.pairs h.pieces
  let pieces := l.pairs.foldl (fun ps p =>
    onPieces p.denom (match dir with | .cashIn => putIn p.count | .cashOut => takeOut p.count) ps) h.pieces
  let dayIn := match dir with | .cashIn => addTotal h.dayIn l.cash | .cashOut => (h.dayIn, false)
  let dayOut := match dir with | .cashOut => addTotal h.dayOut l.cash | .cashIn => (h.dayOut, false)
  let rounding := addSigned h.rounding l.rounding
  let baseIn := match dir with | .cashIn => addTotal d.baseIn e | .cashOut => (d.baseIn, false)
  let baseOut := match dir with | .cashOut => addTotal d.baseOut e | .cashIn => (d.baseOut, false)
  { d with
    currencies := put d.currencies l.currency
      { pieces, dayIn := dayIn.1, dayOut := dayOut.1, rounding := rounding.1, balance := none }
    baseIn := baseIn.1, baseOut := baseOut.1
    overflow := d.overflow || stops || dayIn.2 || dayOut.2 || rounding.2 || baseIn.2 || baseOut.2 || capped }

/-! ### Position and limit state -/

/-- R78: the position of a drawer, each currency's term rounded on its own, and whether the sum or a term was capped. -/
def Tables.position (t : Tables) (d : Drawer) : Nat × Bool :=
  let terms := (currencyNumbers.filter fun c => (t.currency c).isSome).map fun c =>
    t.reckon c (currencyTotal (t.denom c) (look d.currencies c).pieces)
  let sum := (terms.map Prod.fst).sum
  (min sum Config.maxTotal, Config.maxTotal < sum || terms.any Prod.snd)

/-- R87: UNBALANCED of a CLOSED drawer 1 to 16 after a change of its on-hand counts. -/
def Tables.judgeUnbalanced (t : Tables) (n : Nat) (d : Drawer) : Drawer :=
  if !d.isOpen && n != 0 && d.unbalancedCurrencies t != [] then { d with unbalanced := true } else d

/-- R82: the alert of a limit state, none for NORMAL. -/
def limitAlert (d : Nat) : LimitState → Option Alert
  | .low => some ⟨.drawerLow, d⟩
  | .normal => none
  | .high => some ⟨.drawerHigh, d⟩
  | .over => some ⟨.drawerOver, d⟩

/-- R81, R82: the limit state of drawer d evaluated, with the notices and alerts of a change. -/
def State.evaluateLimit (d : Nat) (s : State) : State :=
  let old := (s.drawer d).limit
  let new := evalLimit (s.tables.limit d) old (s.drawer d).position
  if new = old then s
  else
    let s := s.onDrawer d fun r => { r with limit := new }
    let s := if d = 0 then s else s.refreshStatuses (s.stationsOfDrawer d)
    match limitAlert d new with
    | some a => s.giveAlerts (if d = 0 then s.supervisors else s.stationsOfDrawer d) a
    | none => s

/-- R79: the position of drawer d formed afresh, then its limit state evaluated. -/
def State.recomputePosition (d : Nat) (s : State) : State :=
  (s.onDrawer d fun r =>
    let p := s.tables.position r
    { r with position := p.1, overflow := r.overflow || p.2 }).evaluateLimit d

/-! ### What the router asks for -/

/-- R74: a drawer left free, OPEN with every reserved count 0. -/
def State.isFree (s : State) (d : Nat) : Bool := (s.drawer d).isOpen && !(s.drawer d).hasReserved

/-- The OUT legs of a request. -/
def outLegs (legs : List Leg) : List Leg := legs.filter fun l => l.dir = .cashOut

/-- R73: the OUT legs of an accepted request reserved in a drawer. -/
def State.reserveLegs (d : Nat) (legs : List Leg) (s : State) : State :=
  s.onDrawer d fun r => (outLegs legs).foldl (fun r l => r.reserve l) r

/-- R74: the OUT legs of an entry released, and the drawer if it is left free. Nothing is told for a release of no leg. -/
def State.releaseLegs (d : Option Nat) (legs : List Leg) (s : State) : State × List Nat :=
  match d with
  | none => (s, [])
  | some d =>
    if outLegs legs = [] then (s, [])
    else
      let s := s.onDrawer d fun r => (outLegs legs).foldl (fun r l => r.unreserve l) r
      (s, if s.isFree d then [d] else [])

/-- R76: the base equivalent and rate number of a leg at the current rates, and whether E was capped. -/
def Tables.postedOf (t : Tables) (l : Leg) : Posted × Bool :=
  let r := t.reckon l.currency l.cash
  (⟨r.1, t.rate l.currency⟩, r.2)

/-- R75 to R77: every leg posted to a drawer in order; `reserved` says that the OUT legs were reserved. -/
def State.postLegs (d : Nat) (reserved : Bool) (legs : List Leg) (s : State) : State :=
  s.onDrawer d fun r => s.tables.judgeUnbalanced d (legs.foldl (fun r l =>
    let p := s.tables.postedOf l
    let r := if reserved && l.dir = .cashOut then r.unreserve l else r
    r.move l.dir l p.1.base p.2) r)

/-- The sum of the base equivalents of the OUT legs, at the current rates (R44, R59, R83). -/
def Tables.outBase (t : Tables) (legs : List Leg) : Nat := ((outLegs legs).map fun l => (t.postedOf l).1.base).sum

/-- R77: a completion with legs posted: the legs, the stand-in total, the position and limit state once, and the drawer if it is
left free. -/
def State.postCompletion (d : Option Nat) (reserved standIn : Bool) (legs : List Leg) (s : State) : State × List Nat :=
  match d with
  | none => (s, [])
  | some d =>
    if legs = [] then (s, [])
    else
      let e := s.tables.outBase legs
      let s := s.postLegs d reserved legs
      let s := if standIn then s.onDrawer d fun r =>
          { r with standIn := (addTotal r.standIn e).1, overflow := r.overflow || (addTotal r.standIn e).2 } else s
      let s := s.recomputePosition d
      (s, if s.isFree d then [d] else [])

/-- R84: a reserve transfer: the leg out of one drawer and into another, E reckoned once; the teller's drawer is recomputed and
evaluated first, drawer 0 second. `toReserve` gives the direction. -/
def State.transfer (teller : Nat) (toReserve : Bool) (l : Leg) (s : State) : State × List Nat :=
  let p := s.tables.postedOf l
  let outOf := if toReserve then teller else 0
  let into := if toReserve then 0 else teller
  let s := s.onDrawer outOf fun r => s.tables.judgeUnbalanced outOf (r.move .cashOut l p.1.base p.2)
  let s := s.onDrawer into fun r => s.tables.judgeUnbalanced into (r.move .cashIn l p.1.base p.2)
  let s := (s.recomputePosition teller).recomputePosition 0
  (s, (if s.isFree teller then [teller] else []) ++ (if s.isFree 0 then [0] else []))

/-- R85: one currency of a drawer balanced: the counts replaced by those counted and the balance record written. Returns the
difference D, its base value and the rate number. -/
def State.balanceDrawer (d : Nat) (l : Leg) (s : State) : State × Int × Int × Nat :=
  let c := l.currency
  let h := look (s.drawer d).currencies c
  let total := currencyTotal (s.tables.denom c) h.pieces
  let diff : Int := (l.amount : Int) - total
  let base := s.tables.reckonInt c diff
  let pieces := h.pieces.mapIdx fun i p =>
    { p with onHand := match l.pairs.find? fun q => q.denom = i with | some q => q.count | none => 0 }
  let s := s.onDrawer d fun r =>
    { r.onCurrency c fun h => { h with
        pieces, balance := some { counted := l.amount, difference := diff, base := base.1, time := s.mgmt.clock } } with
      overflow := r.overflow || base.2 }
  (s.recomputePosition d, diff, base.1, s.tables.rate c)

/-- R86: a drawer closed; returns whether UNBALANCED was set and the currencies that caused it. -/
def State.closeDrawer (d : Nat) (s : State) : State × Bool × List Nat :=
  let cs := if d = 0 then [] else (s.drawer d).unbalancedCurrencies s.tables
  (s.onDrawer d fun r => { r with isOpen := false, unbalanced := r.unbalanced || cs != [] }, cs != [], cs)

/-- R89: whether every change of a correction can be applied to the pieces of a currency. -/
def correctionFits (pieces : List Pieces) (changes : List Change) : Bool :=
  changes.all fun ch =>
    let p := pieces.getD ch.denom default
    let n := (p.onHand : Int) + ch.change
    (p.reserved : Int) ≤ n && n ≤ (Config.maxPieces : Int)

/-- R89: the changes of a correction applied. -/
def applyChanges (changes : List Change) (pieces : List Pieces) : List Pieces :=
  changes.foldl (fun ps ch => onPieces ch.denom (fun p => { p with onHand := ((p.onHand : Int) + ch.change).toNat }) ps) pieces

/-- R89: the net value of a correction. -/
def netValue (denoms : List Denomination) (changes : List Change) : Int :=
  (changes.map fun ch => ch.change * ((denoms.getD ch.denom default).face : Int)).sum

/-- R89: a correction applied to drawer d. Returns the journal leg of its posting record. -/
def State.correct (d c : Nat) (changes : List Change) (s : State) : State × JLeg :=
  let net := netValue (s.tables.denom c) changes
  let e := s.tables.reckon c net.natAbs
  let s := s.onDrawer d fun r => s.tables.judgeUnbalanced d
    { r.onCurrency c fun h => { h with pieces := applyChanges changes h.pieces, balance := none } with
      overflow := r.overflow || e.2 }
  (s.recomputePosition d,
   { currency := c, dir := if net < 0 then .cashOut else .cashIn, amount := net.natAbs, cash := net.natAbs
     posted := some ⟨e.1, s.tables.rate c⟩, inDoubt := false })

/-- R90: a drawer prepared for the new day. -/
def Drawer.openDay (d : Drawer) : Drawer :=
  { d with
    isOpen := true
    currencies := d.currencies.map fun h => { h with dayIn := 0, dayOut := 0, rounding := 0, balance := none }
    baseIn := 0, baseOut := 0, standIn := 0, overflow := false, unbalanced := false }

/-- R68: after a load of a rate, every drawer in turn recomputed and evaluated. -/
def State.recomputeAll (s : State) : State := drawerNumbers.foldl (fun s d => s.recomputePosition d) s

/-- R66, R67: the counts of a currency in every drawer set to 0, one for each denomination of its list. -/
def State.resetPieces (c : Nat) (s : State) : State :=
  s.onDrawers fun v => v.map fun d => d.onCurrency c fun h => { h with pieces := (s.tables.denom c).map fun _ => ⟨0, 0⟩ }

end Sys2Proof.Machine
end

