-- ==== Sys2Proof/Machine/DayOps.lean ====
section
/-! DEFINITION. The day state and its notices (R168), the force-closes of CLOSING (R172, R173) and the freeze condition
(R174). -/

namespace Sys2Proof.Machine

/-- R168: a change of day state, notified to the Screen Composer. The router and the Passbook Line Manager read the state at
their own decisions. -/
def State.setDay (d : DayState) (s : State) : State := (s.onDay fun x => { x with state := d }).refreshAllStatus

/-- R172: drawer d closed by the Day Close Unit: the Cash Totals Unit closes it, a DRAWER CLOSED entry is offered, and it leaves
the close-pending set. -/
def State.closePendingDrawer (d : Nat) (s : State) : State :=
  let r := s.closeDrawer d
  let s := r.1.onDay fun x => { x with closePending := x.closePending.filter (· != d) }
  (s.journalOffer { JEntry.ofKind .drawerClosed with drawer := some d, detail := some (.closed r.2.1 r.2.2) }).1

/-- R173: the notice that drawer d is free. In CLOSING a drawer of the close-pending set that holds no reserved count is
force-closed; otherwise the notice has no effect. -/
def State.drawerFree (d : Nat) (s : State) : State :=
  if s.day.state = .closing ∧ s.day.closePending.contains d ∧ !(s.drawer d).hasReserved then s.closePendingDrawer d else s

/-- R173: notices taken in the order they were given. -/
def State.drawersFree (l : List Nat) (s : State) : State := l.foldl (fun s d => s.drawerFree d) s

/-- R171, R172: the day ordered closed in OPEN: the OPEN drawers form the close-pending set, and those without a reserved count
are force-closed in drawer order. In any other state nothing happens. -/
def State.closeTheDay (s : State) : State :=
  if s.day.state = .opened then
    let s := (s.onDay fun x => { x with closePending := drawerNumbers.filter fun d => (s.drawer d).isOpen }).setDay .closing
    s.drawersFree drawerNumbers
  else s

/-- R174: the UNFORWARDED entries that are not set aside. -/
def State.unforwardedLeft (s : State) : Bool :=
  s.journal.entries.any fun e => e.forward = .unforwarded && !s.router.setAside.contains e.sequence

/-- R174: the freeze condition. -/
def State.freezeCondition (s : State) : Bool :=
  s.router.table = [] && (!s.unforwardedLeft || s.uplink.link != .up)

end Sys2Proof.Machine
end

