-- ==== Sys2Proof/Machine/LineOps.lean ====
section
/-! DEFINITION. The uplink's transmit queues: offers (R33), withdrawals (R35), breaking off (R34); and the Station Loop
Controller's record changes: misses (R9), returns (R10), signing (R11), holding (R12) and the end of a visit (R6). -/

namespace Sys2Proof.Machine

/-! ### Transmit queues -/

/-- R33: a SYNC offered to the control queue; one already there serves for it. -/
def Uplink.offerSync (u : Uplink) : Uplink :=
  if u.control.any fun b => b.cls = .sync then u else { u with control := u.control ++ [⟨.sync, 0, []⟩] }

/-- R33: a MGMT RESP appended to the control queue; R25 ensures a place for it. -/
def Uplink.offerResponse (tag : Nat) (body : List Byte) (u : Uplink) : Uplink :=
  { u with control := u.control ++ [⟨.mgmtResp, tag, body⟩] }

/-- R33: whether the data queue takes a block. -/
def Uplink.dataRoom (u : Uplink) : Bool := u.data.length < Config.dataCapacity

/-- R33: a block appended to the data queue. -/
def Uplink.pushData (b : TxBlock) (u : Uplink) : Uplink := { u with data := u.data ++ [b] }

/-- The tag field of a REQUEST (spec 11): the station in the first byte, the sequence in the second. -/
def tagField (t : Tag) : Nat := t.station * 256 + t.sequence

/-- The tag a 16-bit tag field holds. -/
def tagOf (n : Nat) : Tag := ⟨n / 256 % 256, n % 256⟩

/-- R34: the block being sent is broken off. -/
def Uplink.breakOff (u : Uplink) : Uplink := { u with sending := u.sending.map fun x => { x with broken := true } }

/-- R35: the withdrawal of a block of a class and tag; true when it is answered withdrawn, false when already sent. -/
def Uplink.withdraw (cls : BlockClass) (tag : Nat) (u : Uplink) : Uplink × Bool :=
  if u.data.any fun b => b.cls = cls && b.tag = tag then
    ({ u with data := u.data.eraseP fun b => b.cls = cls && b.tag = tag }, true)
  else
    match u.sending with
    | some x => if x.block.cls = cls && x.block.tag = tag && !x.broken then (u.breakOff, true) else (u, false)
    | none => (u, false)

/-- R182, R183, R186: every EOD SEG block whose segment number meets a condition withdrawn. -/
def Uplink.withdrawSegments (p : Nat → Bool) (u : Uplink) : Uplink :=
  let u := { u with data := u.data.filter fun b => !(b.cls = BlockClass.eodSeg && p b.tag) }
  match u.sending with
  | some x => if x.block.cls = BlockClass.eodSeg && p x.block.tag then u.breakOff else u
  | none => u

/-! ### Station records -/

/-- R6: the scheduler goes on to the next address; after address 24 the next cycle begins. -/
def Loop.advance (l : Loop) : Loop :=
  if l.nextAddr = 24 then { l with nextAddr := 1, cycle := (l.cycle + 1) % 16 } else { l with nextAddr := l.nextAddr + 1 }

/-- R6: the visit in progress ends. -/
def Loop.endVisit (l : Loop) : Loop := { l with visit := none }.advance

/-- R6: a visit in progress to station a ends; a visit elsewhere goes on. -/
def State.endVisitOf (a : Nat) (s : State) : State :=
  match s.loop.visit with
  | some v => if v.station = a then s.onLoop Loop.endVisit else s
  | none => s

/-- R9: a miss at a PRESENT or SIGNED station; the eighth makes it ABSENT and clears its sign-on. -/
def State.missStation (a : Nat) (s : State) : State :=
  let s := s.handBackFrames a
  if (s.station a).misses + 1 = 8 then
    (s.onStation a fun r => { r with state := .absent, misses := 0, teller := none }).refreshStatus a
  else s.onStation a fun r => { r with misses := r.misses + 1 }

/-- R10, R112: the return of an ABSENT station: SIGNED if it holds a teller ID, PRESENT otherwise, its whole screen dirty. -/
def State.returnStation (a : Nat) (s : State) : State :=
  ((s.onStation a fun r =>
      { r with state := if r.teller.isSome then .signed else .present, misses := 0, frames := [] }).refreshStatus a).onScreen a
    StationScreen.markAll

/-- R8: the visit frames settled: confirmed, or handed back when frame refused is set. -/
def State.settleFrames (a : Nat) (refused : Bool) (s : State) : State :=
  if refused then s.handBackFrames a else s.onStation a fun r => { r with frames := [] }

/-- R11: an approved SIGN-ON completes. -/
def State.signOn (a : Nat) (teller : Text) (s : State) : State :=
  match (s.station a).state with
  | .present | .signed => (s.onStation a fun r => { r with state := .signed, teller := some teller }).refreshStatus a
  | _ => s

/-- R11: a SIGN-OFF completes. -/
def State.signOff (a : Nat) (s : State) : State :=
  if (s.station a).state = .signed then
    (s.onStation a fun r => { r with state := .present, teller := none }).refreshStatus a
  else s

/-- R12, R15: a station taken off its traffic: its frames handed back, its teller ID and misses cleared, a visit to it ended. -/
def State.withdrawStation (a : Nat) (st : StationState) (s : State) : State :=
  let s := s.handBackFrames a
  let s := s.onStation a fun r => { r with state := st, teller := none, misses := 0 }
  (s.refreshStatus a).endVisitOf a

/-- R12: SET FLAGS HOLD of station a. -/
def State.holdStation (a : Nat) (s : State) : State :=
  if (s.station a).state = .held then s
  else
    let s := if (s.station a).state = .test then s.onLoop fun l => { l with test := none } else s
    s.withdrawStation a .held

/-- R12: CLEAR FLAGS HOLD of station a. -/
def State.releaseStation (a : Nat) (s : State) : State :=
  if (s.station a).state = .held then (s.onStation a fun r => { r with state := .absent }).refreshStatus a else s

end Sys2Proof.Machine
end

