-- ==== Sys2Proof/Machine/Store.lean ====
section
/-! DEFINITION. The pending line store: the account index (R139), arrivals (R140), summarisation (R141, R142), lines not recorded
(R143), and the removal and marking of the line in print (R146, R147, R151). -/

namespace Sys2Proof.Machine

/-! ### The account index (R139) -/

/-- The held slots with their numbers, in ascending order. -/
def Passbook.held (b : Passbook) : List (Nat × Account) :=
  (indexed b.slots).filterMap fun x => x.2.map fun a => (x.1, a)

/-- The number of lines in the store. -/
def Passbook.lineCount (b : Passbook) : Nat := (b.held.map fun x => x.2.lines.length).sum

/-- The number of accounts in the index. -/
def Passbook.accountCount (b : Passbook) : Nat := b.held.length

/-- The slot of an account, with its content. -/
def Passbook.find (b : Passbook) (account : Text) : Option (Nat × Account) := b.held.find? fun x => x.2.account = account

/-- The lines of an account, oldest first; none when it is not in the index. -/
def Passbook.linesOf (b : Passbook) (account : Text) : List PLine :=
  match b.find account with
  | some x => x.2.lines
  | none => []

/-- The lowest free slot. -/
def Passbook.freeSlot (b : Passbook) : Option Nat :=
  (indexed b.slots).findSome? fun x => if x.2.isNone then some x.1 else none

/-- Whether a line in the store has a reference. -/
def Passbook.hasReference (b : Passbook) (reference : Text) : Bool :=
  b.held.any fun x => x.2.lines.any fun l => l.reference = reference

/-- A slot's account changed; an account left without a line leaves the index, and its slot is free (R139). -/
def Passbook.onSlot (i : Nat) (f : Account → Account) (b : Passbook) : Passbook :=
  { b with slots := put b.slots i (match look b.slots i with
      | some a => if (f a).lines = [] then none else some (f a)
      | none => none) }

/-- An account's lines changed. -/
def Passbook.onLines (account : Text) (f : List PLine → List PLine) (b : Passbook) : Passbook :=
  match b.find account with
  | some x => b.onSlot x.1 fun a => { a with lines := f a.lines }
  | none => b

def Passbook.count (f : PassbookCounters → PassbookCounters) (b : Passbook) : Passbook := { b with counters := f b.counters }

/-! ### Summarisation (R141, R142) -/

/-- R139: the lines of an account whose in-print mark is clear. -/
def mergeableCount (lines : List PLine) : Nat := (lines.filter fun l => !l.inPrint).length

/-- R141: the summary line of merged lines, oldest first; `newest` is the last of them. -/
def summaryLine (merged : List PLine) (newest : PLine) : PLine :=
  { reference := newest.reference, date := newest.date, description := []
    amount := (merged.map PLine.amount).sum, balance := newest.balance
    items := min (merged.map PLine.items).sum 9999, kind := .summary, inPrint := false }

/-- R141: the oldest k mergeable lines replaced by one summary line where the oldest of them stood. A line in print is the oldest
of its account (R139) and is passed over. -/
def mergeOldest (k : Nat) (lines : List PLine) : List PLine :=
  let printing := lines.takeWhile PLine.inPrint
  let rest := lines.dropWhile PLine.inPrint
  match (rest.take k).getLast? with
  | some newest => printing ++ summaryLine (rest.take k) newest :: rest.drop k
  | none => lines

/-- ⌈S/2⌉. -/
def halfUp (threshold : Nat) : Nat := (threshold + 1) / 2

/-- R141: the account in a slot summarised at the threshold, when it holds more lines than it. -/
def Passbook.summariseSlot (t : Tables) (i : Nat) (b : Passbook) : Passbook :=
  match look b.slots i with
  | none => b
  | some a =>
    let limit := t.threshold a.bookType
    if limit < a.lines.length then
      (b.onSlot i fun a => { a with lines := mergeOldest (a.lines.length - limit + halfUp limit) a.lines }).count
        fun c => { c with summaries := bump c.summaries }
    else b

/-- R142: the account in a slot summarised under a full store. -/
def Passbook.summariseFull (t : Tables) (i : Nat) (b : Passbook) : Passbook :=
  (b.onSlot i fun a =>
    { a with lines := mergeOldest (min (halfUp (t.threshold a.bookType) + 1) (mergeableCount a.lines)) a.lines }).count
    fun c => { c with summaries := bump c.summaries, fullStore := bump c.fullStore }

/-- R142: the lowest slot that holds the most lines. -/
def Passbook.fullestSlot (b : Passbook) : Nat :=
  (b.held.foldl (fun best x => if best.2 < x.2.lines.length then (x.1, x.2.lines.length) else best) (0, 0)).1

/-- R142: room made for a line of an account when the store is full. -/
def Passbook.makeRoom (t : Tables) (account : Text) (b : Passbook) : Passbook :=
  if b.lineCount < Config.storeCapacity then b
  else
    match b.find account with
    | some x => if 2 ≤ mergeableCount x.2.lines then b.summariseFull t x.1 else b.summariseFull t b.fullestSlot
    | none => b.summariseFull t b.fullestSlot

/-! ### Arrivals (R140) -/

/-- What became of an arrival (R140). -/
inductive Arrival where
  | stored | duplicate | notRecorded
  deriving DecidableEq, Repr

/-- R139, R140: an arriving line as it is stored. -/
def LineIn.toLine (l : LineIn) : PLine :=
  { reference := l.reference, date := l.date, description := l.description, amount := l.amount, balance := l.balance
    items := l.items, kind := .item, inPrint := false }

/-- R140, steps 2 to 4: whether an arrival that is no duplicate can be stored. -/
def Passbook.accepts (b : Passbook) (l : LineIn) : Bool :=
  l.amount.natAbs ≤ Config.maxAmount && l.balance.natAbs ≤ Config.maxTotal
  && (match b.find l.account with
      | some x => (x.2.lines.map fun p => p.amount.natAbs).sum + l.amount.natAbs ≤ Config.maxLineAmount
      | none => b.freeSlot.isSome)

/-- R140, step 6: the line appended at the tail of its account's list, a new account taking the lowest free slot. -/
def Passbook.append (l : LineIn) (b : Passbook) : Passbook × Nat :=
  match b.find l.account with
  | some x => (b.onSlot x.1 fun a => { a with bookType := l.bookType, lines := a.lines ++ [l.toLine] }, x.1)
  | none =>
    match b.freeSlot with
    | some i => ({ b with slots := put b.slots i (some ⟨l.account, l.bookType, [l.toLine]⟩) }, i)
    | none => (b, 0)

/-- R140, steps 5 to 7: an accepted line stored. -/
def Passbook.storeLine (t : Tables) (l : LineIn) (b : Passbook) : Passbook :=
  let r := (b.makeRoom t l.account).append l
  r.1.count (fun c => { c with stored := bump c.stored }) |>.summariseSlot t r.2

/-- R140, R143: a line arrives at the store. -/
def State.lineArrives (l : LineIn) (s : State) : State × Arrival :=
  if s.passbook.hasReference l.reference then
    (s.onPassbook (Passbook.count fun c => { c with duplicates := bump c.duplicates }), .duplicate)
  else if s.passbook.accepts l then (s.onPassbook (Passbook.storeLine s.tables l), .stored)
  else
    let s := s.onPassbook (Passbook.count fun c => { c with notRecorded := bump c.notRecorded })
    ((s.journalOffer { JEntry.ofKind .passbookNotRecorded with account := some l.account, reference := some l.reference }).1,
     .notRecorded)

/-! ### The line in print -/

/-- The line of a reference marked in print or not (R146, R147). -/
def Passbook.markLine (account reference : Text) (mark : Bool) (b : Passbook) : Passbook :=
  b.onLines account (List.map fun l => if l.reference = reference then { l with inPrint := mark } else l)

/-- The line of a reference removed, its account leaving the index if it was the last (R147). -/
def Passbook.removeLine (account reference : Text) (b : Passbook) : Passbook :=
  b.onLines account (List.filter fun l => l.reference ≠ reference)

/-- R153: an account removed with all its lines; returns how many. -/
def Passbook.clearAccount (account : Text) (b : Passbook) : Passbook × Nat :=
  (b.onLines account fun _ => [], (b.linesOf account).length)

/-- R136: every account of a book type that holds more lines than the threshold now in force summarised, in slot order. -/
def Passbook.summariseType (t : Tables) (bookType : Nat) (b : Passbook) : Passbook :=
  (List.range 512).foldl (fun b i =>
    match look b.slots i with
    | some a => if a.bookType = bookType then b.summariseSlot t i else b
    | none => b) b

end Sys2Proof.Machine
end

