-- ==== Sys2Proof/Machine/Printer.lean ====
section
/-! DEFINITION. The Printer Port Controller's own operations: orders and returns as bytes (R123, R124), dialogues begun, served and
ended (R116 to R119), PORT RESET pulses, changes of port state (R126), NOT READY (R127), claims and releases (R130). What a
dialogue's end leads to is in Jobs.lean and Dialogue.lean. -/

namespace Sys2Proof.Machine

/-! ### Orders and records (spec 11, "Printer port") -/

/-- An order's bytes: its code, the reserved byte, its fields. -/
def Order.make (kind : OrderKind) (bookType : Nat) (fields data : List Byte) : Order :=
  { kind, bookType, bytes := by1 (codeIn orderNames kind) ++ [0] ++ fields, data }

/-- An order that carries nothing beyond its code. -/
def Order.plain (kind : OrderKind) : Order := Order.make kind 0 [] []

/-- The status bytes (spec 11). -/
def statusGood : Byte := 0x00
def statusCheck : Byte := 0x02
def statusBusy : Byte := 0x08

/-- A stripe record as bytes. -/
def encStripe (r : Stripe) : List Byte :=
  r.account ++ by1 r.bookType ++ r.serial ++ by1 r.page ++ by1 r.u ++ by1 r.check

/-- R138: a stripe record with its field ranges. -/
def readStripeRecord : Reader Stripe :=
  (Reader.digits 12).andThen fun account => (Reader.natIn 1 0 7).andThen fun bookType =>
  (Reader.digits 6).andThen fun serial => (Reader.natIn 1 1 24).andThen fun page =>
  (Reader.natIn 1 0 40).andThen fun u => (Reader.natIn 1 0 9).map fun check => { account, bookType, serial, page, u, check }

/-- R124: the return of READ STRIPE, a stripe record and the open page. -/
def readStripeReturn (bs : List Byte) : Option (Stripe × Nat) :=
  (readStripeRecord.andThen fun r => (Reader.natIn 1 1 24).map fun page => (r, page)).wellFormed bs

/-- R123: the return of SENSE that fits. -/
def readSense (bs : List Byte) : Option Sense :=
  ((Reader.named 1 (nameIn senseNames) default).andThen fun sense => (Reader.natIn 1 0 40).map fun line =>
    Sense.mk sense line).wellFormed bs

/-- R124: the return of STATUS REQUEST, no reserved position set. -/
def readStatusRecord : List Byte → Option StatusRec
  | [b] => if b.toNat < 8 then some ⟨bitSet b 0, bitSet b 1, bitSet b 2⟩ else none
  | _ => none

/-- R128: a record that makes a ready status, the cover CLOSED and the paper path CLEAR. -/
def StatusRec.ready (r : StatusRec) : Bool := !r.cover && !r.jammed

/-- R120: whether a GOOD dialogue's return fits its order. -/
def returnFits (kind : OrderKind) (returned : List Byte) (overlong : Bool) : Bool :=
  !overlong &&
  match kind with
  | .setLayout | .printLine | .eject => returned = []
  | .readStripe => (readStripeReturn returned).isSome
  | .sense => (readSense returned).isSome
  | .statusRequest => (readStatusRecord returned).isSome

/-! ### One port's dialogue -/

/-- Whether SELECT is high and ATTEND was taken: the dialogue states in which phase requests are taken (R118). -/
def Dialogue.attended : Dialogue → Bool
  | .waiting | .orderOut | .dataOut | .dataIn | .stateIn | .closeIn => true
  | .none | .selecting | .retryWait => false

/-- The order a dialogue carries: the SENSE that follows a CHECK, or the current order (R122). -/
def Port.carried (p : Port) : Order := if p.sensing then Order.plain .sense else p.order.getD (Order.plain .statusRequest)

/-- R117: SELECT raised for the order carried; the first dialogue of an order sets its attempt count to 1 (R121). -/
def Port.raise (p : Port) : Port :=
  { p with
    dialogue := .selecting, selectTimer := some Config.selectMs, stepTimer := none, retryTimer := none, due := false
    attempts := if p.sensing then p.attempts else max p.attempts 1
    senseAttempts := if p.sensing then max p.senseAttempts 1 else p.senseAttempts
    orderPos := 0, dataPos := 0, status := none, returned := [], overlong := false, byteOut := none }

/-- R116, R117: a dialogue falls due: it begins now, or when the PORT RESET pulse ends. -/
def Port.start (p : Port) : Port := if running p.pulseTimer then { p with due := true } else p.raise

/-- R117, R127, R131: SELECT dropped; no dialogue, and no timer of one, is left. -/
def Port.dropSelect (p : Port) : Port :=
  { p with dialogue := .none, selectTimer := none, stepTimer := none, retryTimer := none, due := false, byteOut := none }

/-- R116, R125: PORT RESET pulsed; the printer's layout is then not known. Ordered while a pulse runs, the 10 ms begin afresh
(assumption 50). -/
def Port.pulse (p : Port) : Port := { p with pulseTimer := some Config.resetPulseMs, loaded := none }

/-- The current order ended: absent, with its attempt counts 0. -/
def Port.clearOrder (p : Port) : Port :=
  { p with order := none, poll := false, sensing := false, attempts := 0, senseAttempts := 0 }

/-- R119, R120, R122: the dialogue ended by a reset pulse, and counted as an abort. -/
def Port.abort (p : Port) : Port :=
  { p.dropSelect.pulse with counters := { p.counters with aborts := bump p.counters.aborts } }

/-- An order taken to be carried; `poll` says that the port controller carries it on its own account. -/
def Port.carry (o : Order) (poll : Bool) (p : Port) : Port :=
  { p.clearOrder with order := some o, poll, pollTimer := none }.start

/-- R128: a poll. -/
def Port.startPoll (p : Port) : Port := p.carry (Order.plain .statusRequest) true

/-- R121: the retry wait. -/
def Port.retryWait (p : Port) : Port := { p.dropSelect with dialogue := .retryWait, retryTimer := some Config.retryMs }

/-- R122: the SENSE that follows a CHECK at once. -/
def Port.startSense (p : Port) : Port := { p.dropSelect with sensing := true, senseAttempts := 0 }.start

/-- R123: what a sense code does to the port record, with the record kept. -/
def Port.takeSense (r : Sense) (p : Port) : Port :=
  let p := { p with lastSense := some r }
  match r.sense with
  | .noBook => { p with bookSeen := false }
  | .stripeUnreadable | .stripeWriteFailed | .lineOutOfRange => p
  | .noLayout => { p with loaded := none }
  | .paperJam => { p with attention := .paperJam }
  | .coverOpen => { p with attention := .coverOpen }
  | .badOrder | .reservedSet => { p with counters := { p.counters with refused := bump p.counters.refused } }

/-! ### Phases (R118) -/

/-- The phase a phase code names (spec 11). -/
def phaseOf (code : BitVec 3) : Option Dialogue :=
  match code.toNat with
  | 1 => some .orderOut | 2 => some .dataOut | 3 => some .dataIn | 4 => some .stateIn | 5 => some .closeIn
  | _ => none

/-- The byte at a position, 0 beyond the last, and the position after it. -/
def byteFrom (bytes : List Byte) (pos : Nat) : Byte × Nat := (bytes.getD pos 0, min (pos + 1) bytes.length)

/-- R118: an ORDER-OUT byte. -/
def Port.orderByte (p : Port) : Port :=
  let b := byteFrom p.carried.bytes p.orderPos
  { p with byteOut := some b.1, orderPos := b.2, stepTimer := some Config.phaseStepMs }

/-- R118: a DATA-OUT byte. -/
def Port.dataByte (p : Port) : Port :=
  let b := byteFrom p.carried.data p.dataPos
  { p with byteOut := some b.1, dataPos := b.2, stepTimer := some Config.phaseStepMs }

/-- R118: a DATA-IN byte; beyond the 256th it is dropped and marks the return overlong. -/
def Port.returnByte (b : Byte) (p : Port) : Port :=
  if p.returned.length < 256 then { p with returned := p.returned ++ [b], stepTimer := some Config.phaseStepMs }
  else { p with overlong := true, stepTimer := some Config.phaseStepMs }

/-! ### Port states (R126) -/

/-- R148: a job record in TURN WAIT cleared. -/
def State.clearTurnWait (p : Nat) (s : State) : State :=
  match s.job p with
  | some j => if j.state = .turnWait then s.setJob p none else s
  | none => s

/-- R126, R148: a change of port state: the status lines of the stations that name the port are told, and the Passbook Line Manager,
which clears a record in TURN WAIT when the port is DISABLED or FAILED. -/
def State.setPortState (p : Nat) (st : PortState) (s : State) : State :=
  let s := (s.onPort p fun r => { r with state := st }).refreshStatuses (s.stationsOfPort p)
  match st with
  | .disabled | .failed => s.clearTurnWait p
  | _ => s

/-- R127: NOT READY entered: the ready wait starts and a poll begins at once. -/
def State.enterNotReady (p : Nat) (s : State) : State :=
  (s.onPort p fun r =>
    { r with bookSeen := false, attention := .none, readyTimer := some Config.readyWaitMs }.startPoll).setPortState p .notReady

/-- R128, R129: IDLE or ATTENTION entered, the next poll 500 ms later. -/
def State.enterPolling (p : Nat) (st : PortState) (s : State) : State :=
  (s.onPort p fun r => { r with pollTimer := some Config.pollMs }).setPortState p st

/-- R127: a port enabled, when it is DISABLED or FAILED. -/
def State.enablePort (p : Nat) (s : State) : State :=
  match (s.port p).state with
  | .disabled | .failed => s.enterNotReady p
  | _ => s

/-! ### Claims (R130) -/

/-- R130: a claim; true when it is granted. -/
def State.claimPort (p : Nat) (s : State) : State × Bool :=
  if (s.port p).state = .idle then
    ((s.onPort p fun r => { r with claimed := true, readinessLost := false, pollTimer := none }).setPortState p .busy, true)
  else (s, false)

/-- R130: an order of the Passbook Line Manager; taken only under its claim with no order in progress. -/
def State.giveOrder (p : Nat) (o : Order) (s : State) : State :=
  if (s.port p).claimed && (s.port p).order.isNone then s.onPort p (Port.carry o false) else s

/-- R130: the claim released; `noBook` says that the last order carried ended CHECK with NO BOOK. -/
def State.releasePort (p : Nat) (noBook : Bool) (s : State) : State :=
  let s := s.onPort p fun r => { r with claimed := false, bookSeen := if noBook then r.bookSeen else true }
  if (s.port p).readinessLost then s.enterNotReady p
  else if (s.port p).attention != .none then s.enterPolling p .attention
  else s.enterPolling p .idle

end Sys2Proof.Machine
end

