-- ==== Sys2Proof/Machine/Jobs.lean ====
section
/-! DEFINITION. The Passbook Line Manager's print jobs: line text (R137), check digits (R138), the start of a job and the judging of
the stripe (R145), the orders given (R146), their outcomes (R147, R148, R150), settlements (R151) and the end of a claim by
disabling (R150). -/

namespace Sys2Proof.Machine

/-! ### Check digit and line text -/

/-- R138: the products of the digits, taken from the right, the first multiplied by 2 and the next by 1, alternately. -/
def luhnProducts : Bool → List Nat → List Nat
  | _, [] => []
  | double, d :: ds =>
    let x := if double then 2 * d else d
    (if 9 < x then x - 9 else x) :: luhnProducts (!double) ds

/-- R138: the string of 23 digits. -/
def stripeDigits (r : Stripe) : Text := r.account ++ digit r.bookType :: r.serial ++ two r.page ++ two r.u

/-- R138: the check digit of a stripe record. -/
def checkDigit (r : Stripe) : Nat :=
  let sum := (luhnProducts true ((stripeDigits r).reverse.map fun b => b.toNat - 0x30)).sum
  (10 - sum % 10) % 10

/-- R137: an amount or balance in its item. -/
def lineAmount (t : Tables) (width : Nat) (v : Int) : Text :=
  match t.currency 0 with
  | some c => placeRight width (amountText t.params.grouping t.params.decimalChar c.exponent v)
  | none => fill width (code '?')

/-- R137: a date in its item. -/
def lineDate (t : Tables) (width : Nat) (date : Text) : Text :=
  match readDate date with
  | some (y, m, d) =>
    placeLeft width (dateText t.params.dateOrder t.params.dateSeparator (if width = 10 then four y else two y) m d)
  | none => fill width (code '?')

/-- R137: a description in its item. -/
def lineDescription (width : Nat) (l : PLine) : Text :=
  placeLeft width (match l.kind with | .item => l.description | .summary => decimal l.items ++ text " ITEMS")

/-- An item written into its columns of a line of spaces. -/
def writeItem (col : Nat) (t line : Text) : Text := line.take (col - 1) ++ t ++ line.drop (col - 1 + t.length)

/-- R137: the line text of a pending line on a layout. -/
def lineText (t : Tables) (b : BookLayout) (l : PLine) : Text :=
  let length := max (max (b.dateCol + b.dateWidth) (b.descCol + b.descWidth))
    (max (b.amountCol + b.amountWidth) (b.balanceCol + b.balanceWidth)) - 1
  writeItem b.balanceCol (lineAmount t b.balanceWidth l.balance)
    (writeItem b.amountCol (lineAmount t b.amountWidth l.amount)
      (writeItem b.descCol (lineDescription b.descWidth l)
        (writeItem b.dateCol (lineDate t b.dateWidth l.date) (fill length space))))

/-! ### Job records -/

/-- R144: a new job record. Before a stripe is judged it holds page 0 and u 0 (assumption 40). -/
def Job.fresh (st : JobState) : Job :=
  { state := st, stripe := none, page := 0, u := 0, inPrint := none, endAlert := none, printed := 0, returning := false
    ejecting := false, failed := false }

/-- A job record changed; a clear one stays clear. -/
def State.onJob (p : Nat) (f : Job → Job) (s : State) : State := s.setJob p ((s.job p).map f)

/-- R150: the job of port p ended by the failure table, and counted. -/
def State.jobFailed (p : Nat) (s : State) : State :=
  (s.onPassbook (Passbook.count fun c => { c with failedJobs := bump c.failedJobs })).onJob p fun j => { j with failed := true }

/-- R145: one ending more with STRIPE INVALID. -/
def State.stripeBad (s : State) : State := s.onPassbook (Passbook.count fun c => { c with stripeBad := bump c.stripeBad })

/-- R150: ENDING: EJECT is given, and the ending alert, if there is one, to the stations that name the port. -/
def State.startEnding (p : Nat) (alert : Option Alert) (s : State) : State :=
  let s := s.onJob p fun j => { j with state := .ending, endAlert := alert, ejecting := true }
  let s := match alert with
    | some a => s.giveAlerts (s.stationsOfPort p) a
    | none => s
  s.giveOrder p (Order.plain .eject)

/-- R148: a page turn: TURN PAGE given, EJECT given, the job in TURN WAIT. -/
def State.startPageTurn (p nextPage : Nat) (s : State) : State :=
  let s := s.onJob p fun j => { j with state := .turnWait, ejecting := true }
  (s.giveAlerts (s.stationsOfPort p) ⟨.turnPage, nextPage⟩).giveOrder p (Order.plain .eject)

/-- R145: a book has been put in at a port. -/
def State.bookInserted (p : Nat) (s : State) : State :=
  let c := s.claimPort p
  if !c.2 then s
  else
    let s := c.1
    if s.day.state.inBusiness then
      let s := s.setJob p (some (match s.job p with
        | some j =>
          { j with
            state := .reading, returning := true, stripe := none, inPrint := none, endAlert := none, ejecting := false
            failed := false }
        | none => Job.fresh .reading))
      let s := s.onPassbook (Passbook.count fun c => { c with jobs := bump c.jobs })
      s.giveOrder p (Order.plain .readStripe)
    else
      let s := s.setJob p (some ((s.job p).getD (Job.fresh .ending)))
      s.startEnding p (some ⟨.branchClosed, p⟩)

/-! ### Orders (R146) -/

/-- R146: the new stripe record of the next line. -/
def Job.nextStripe (j : Job) (r : Stripe) : Stripe :=
  let r := { r with page := j.page, u := j.u + 1 }
  { r with check := checkDigit r }

/-- R146: the next order of a job in PRINTING. -/
def State.nextOrder (p : Nat) (s : State) : State :=
  if !s.day.state.inBusiness then s.startEnding p (some ⟨.branchClosed, p⟩)
  else
    match s.job p with
    | none => s
    | some j =>
      match j.stripe with
      | none => s
      | some r =>
        match s.tables.layout r.bookType, s.passbook.linesOf r.account with
        | some b, l :: _ =>
          if (s.port p).loaded != some r.bookType then
            s.giveOrder p (Order.make .setLayout r.bookType (by1 r.bookType ++ encGeometry b) [])
          else
            let s := s.onPassbook (Passbook.markLine r.account l.reference true)
            let s := s.onJob p fun j => { j with inPrint := some l.reference }
            s.giveOrder p (Order.make .printLine 0 (by1 (b.usable.getD j.u 0))
              (encText (lineText s.tables b l) ++ encStripe (j.nextStripe r)))
        | _, _ => s.startEnding p none

/-! ### Judging the stripe (R145) -/

/-- R145: the expected page. -/
def expectedPage (b : BookLayout) (r : Stripe) : Nat := if r.u = b.usableCount then r.page + 1 else r.page

/-- R145: whether a job at another port prints or waits with an account. -/
def State.accountInUse (p : Nat) (account : Text) (s : State) : Bool :=
  (indexed s.passbook.jobs).any fun x => x.1 != p - 1 &&
    match x.2 with
    | some j => (j.state = .printing || j.state = .turnWait) && (j.stripe.map Stripe.account) = some account
    | none => false

/-- R145: the ending of a stripe whose tests fail, in their order; none when the job passes to PRINTING. -/
def State.judgeStripe (p : Nat) (r : Stripe) (openPage : Nat) (s : State) : Option Alert :=
  match s.tables.layout r.bookType with
  | none => some ⟨.stripeInvalid, p⟩
  | some b =>
    if r.check != checkDigit r || b.pagesPerBook < r.page || b.usableCount < r.u then some ⟨.stripeInvalid, p⟩
    else
      match s.passbook.find r.account with
      | none => some ⟨.noEntries, p⟩
      | some x =>
        if s.accountInUse p r.account then some ⟨.accountInUse, p⟩
        else if x.2.bookType != r.bookType then some ⟨.stripeInvalid, p⟩
        else if r.u = b.usableCount && r.page = b.pagesPerBook then some ⟨.bookFull, p⟩
        else if openPage != expectedPage b r then some ⟨.openPage, expectedPage b r⟩
        else none

/-- R145: READ STRIPE ended GOOD. -/
def State.stripeRead (p : Nat) (r : Stripe) (openPage : Nat) (s : State) : State :=
  if !s.day.state.inBusiness then s.startEnding p (some ⟨.branchClosed, p⟩)
  else
    let verdict := s.judgeStripe p r openPage
    let s := s.onJob p fun j => { j with stripe := some r, page := r.page, u := r.u }
    match verdict with
    | some a =>
      let s := if a.alert = .stripeInvalid then s.stripeBad else s
      s.startEnding p (some a)
    | none =>
      let moved : Bool := match s.tables.layout r.bookType with
        | some b => r.u = b.usableCount
        | none => false
      (s.onJob p fun j =>
        { j with state := .printing, page := if moved then r.page + 1 else r.page, u := if moved then 0 else r.u }).nextOrder p

/-! ### Outcomes (R147, R148, R150, R151) -/

/-- R150: the failure table. -/
def State.jobFails (p : Nat) (kind : OrderKind) (o : OrderOutcome) (s : State) : State :=
  match o with
  | .busy | .busyLimit =>
    let s := (s.releasePort p false).jobFailed p
    (s.giveAlerts (s.stationsOfPort p) ⟨.printerBusy, p⟩).setJob p none
  | .check r =>
    if r.sense = .noBook then ((s.releasePort p true).jobFailed p).setJob p none
    else if kind = .readStripe ∧ r.sense = .stripeUnreadable then
      (s.jobFailed p).stripeBad.startEnding p (some ⟨.stripeInvalid, p⟩)
    else (s.jobFailed p).startEnding p none
  | .noAnswer | .aborted => (s.jobFailed p).startEnding p none
  | .good _ => s

/-- R147, R151: whether a PRINT LINE with this outcome has printed its line. -/
def OrderOutcome.printed : OrderOutcome → Bool
  | .good _ => true
  | .check r => r.sense = .stripeWriteFailed
  | _ => false

/-- R120: whether an order ended GOOD. -/
def OrderOutcome.isGood : OrderOutcome → Bool
  | .good _ => true
  | _ => false

/-- R148: after a GOOD PRINT LINE. -/
def State.afterLine (p : Nat) (j : Job) (r : Stripe) (s : State) : State :=
  if s.passbook.linesOf r.account = [] then s.startEnding p none
  else
    match s.tables.layout r.bookType with
    | none => s.startEnding p none
    | some b =>
      if j.u = b.usableCount then
        if j.page = b.pagesPerBook then s.startEnding p (some ⟨.bookFull, p⟩) else s.startPageTurn p (j.page + 1)
      else s.nextOrder p

/-- R147: a PRINT LINE ended while the day is OPEN or CLOSING. -/
def State.lineEnded (p : Nat) (j : Job) (r : Stripe) (reference : Text) (o : OrderOutcome) (s : State) : State :=
  if o.printed then
    let j' := { j with inPrint := none, u := j.u + 1, printed := min (j.printed + 1) 9999 }
    let s := s.onPassbook fun b =>
      (b.removeLine r.account reference).count fun c => { c with linesPrinted := bump c.linesPrinted }
    let s := s.setJob p (some j')
    match o with
    | .good _ => s.afterLine p j' r
    | _ => s.startEnding p (some ⟨.stripeNotUpdated, p⟩)
  else
    let s := s.onPassbook (Passbook.markLine r.account reference false)
    (s.setJob p (some { j with inPrint := none })).jobFails p .printLine o

/-- R151: a settlement kept for a port. -/
def State.settle (p : Nat) (x : Settlement) (s : State) : State :=
  s.onPassbook fun b => { b with settlements := put b.settlements (p - 1) (some x) }

/-- R151: a PRINT LINE ended while the day is frozen. -/
def State.lineSettled (p : Nat) (j : Job) (r : Stripe) (reference : Text) (o : OrderOutcome) (s : State) : State :=
  let s := (s.settle p ⟨r.account, reference, o.printed⟩).setJob p (some { j with inPrint := none })
  match o with
  | .busy | .busyLimit => s.jobFails p .printLine o
  | .check k => if k.sense = .noBook then s.jobFails p .printLine o else s.startEnding p (some ⟨.branchClosed, p⟩)
  | .good _ | .noAnswer | .aborted => s.startEnding p (some ⟨.branchClosed, p⟩)

/-- R150: an EJECT ended, with any outcome: the claim is released, and the record stays in or returns to TURN WAIT, or is cleared. A failing
EJECT that ends a job is counted as the table's last row, unless an earlier failure has counted the job (assumption 20). -/
def State.ejectEnded (p : Nat) (o : OrderOutcome) (s : State) : State :=
  let noBook := match o with | .check r => r.sense = .noBook | _ => false
  let s := s.releasePort p noBook
  match s.job p with
  | none => s
  | some j =>
    let turning := j.state = .turnWait || (j.state = .ending && j.returning && j.endAlert.map Alert.alert = some .openPage)
    if turning && s.day.state.inBusiness then
      s.setJob p (some { j with state := .turnWait, returning := false, endAlert := none, ejecting := false })
    else (if o.isGood || j.failed then s else s.jobFailed p).setJob p none

/-- An order of the Passbook Line Manager ended with an outcome (R130, R145 to R151). -/
def State.orderEnded (p : Nat) (kind : OrderKind) (o : OrderOutcome) (s : State) : State :=
  match kind with
  | .eject => s.ejectEnded p o
  | .readStripe =>
    match o with
    | .good returned =>
      match readStripeReturn returned with
      | some (r, page) => s.stripeRead p r page
      | none => s
    | _ => s.jobFails p .readStripe o
  | .setLayout =>
    match o with
    | .good _ => s.nextOrder p
    | _ => s.jobFails p .setLayout o
  | .printLine =>
    match s.job p with
    | none => s
    | some j =>
      match j.stripe, j.inPrint with
      | some r, some reference =>
        if s.day.state.frozen then s.lineSettled p j r reference o else s.lineEnded p j r reference o
      | _, _ => s
  | .sense | .statusRequest => s

/-- R150: the claim ended because the port was disabled: a line in print has its mark cleared, or while the day is frozen is settled
not printed (R151), and the record is cleared with no EJECT. -/
def State.claimEnded (p : Nat) (s : State) : State :=
  let s := match s.job p with
    | some j =>
      match j.stripe, j.inPrint with
      | some r, some reference =>
        if s.day.state.frozen then s.settle p ⟨r.account, reference, false⟩
        else s.onPassbook (Passbook.markLine r.account reference false)
      | _, _ => s
    | none => s
  s.setJob p none

/-! ### The day (R148, R151) and the warm start (R156) -/

/-- R148: the day enters CLOSED: every record in TURN WAIT is cleared. -/
def State.clearTurnWaits (s : State) : State := portNumbers.foldl (fun s p => s.clearTurnWait p) s

/-- R151: the settlement of one port applied and cleared. -/
def Passbook.applySettlement (p : Nat) (b : Passbook) : Passbook :=
  match look b.settlements (p - 1) with
  | none => b
  | some x =>
    let b := { b with settlements := put b.settlements (p - 1) none }
    if x.printed then b.removeLine x.account x.reference else b.markLine x.account x.reference false

/-- R151: the day is open: every settlement applied. -/
def Passbook.openDay (b : Passbook) : Passbook := portNumbers.foldl (fun b p => b.applySettlement p) b

/-- R156: the line in print of port p's job at a warm start. -/
def Passbook.warmLine (frozen : Bool) (p : Nat) (b : Passbook) : Passbook :=
  match look b.jobs (p - 1) with
  | some j =>
    match j.stripe, j.inPrint with
    | some r, some reference =>
      if frozen then
        match look b.settlements (p - 1) with
        | some _ => b
        | none => { b with settlements := put b.settlements (p - 1) (some ⟨r.account, reference, false⟩) }
      else b.markLine r.account reference false
    | _, _ => b
  | none => b

/-- R156: the Passbook Line Manager's warm start. -/
def Passbook.warm (frozen : Bool) (b : Passbook) : Passbook :=
  { portNumbers.foldl (fun b p => b.warmLine frozen p) b with jobs := Vector.replicate 8 none }

end Sys2Proof.Machine
end

