-- ==== Sys2Proof/Machine/Dialogue.lean ====
section
/-! DEFINITION. What the end of a dialogue leads to: polls judged (R127 to R129), orders ended (R120 to R125, R130), dialogues aborted
(R119), ports disabled (R131), the ready wait (R127) and the warm start of the ports (R134). -/

namespace Sys2Proof.Machine

/-! ### Polls -/

/-- R128: an IDLE poll with a ready status judged. -/
def State.idlePoll (p : Nat) (r : StatusRec) (s : State) : State :=
  if !r.book then s.onPort p fun x => { x with bookSeen := false }
  else if (s.port p).bookSeen then s
  else
    (s.onPort p fun x =>
      { x with bookSeen := true, counters := { x.counters with books := bump x.counters.books } }).bookInserted p

/-- The attention reason of a record that is no ready status (R128). -/
def StatusRec.attention (r : StatusRec) : AttentionReason := if r.cover then .coverOpen else .paperJam

/-- The next poll 500 ms later (R127, R128). -/
def State.pollLater (p : Nat) (s : State) : State := s.onPort p fun x => { x with pollTimer := some Config.pollMs }

/-- Whether a sense moves the port to ATTENTION (R128). -/
def Sense.isAttention (r : Sense) : Bool := r.sense = .coverOpen || r.sense = .paperJam

/-- R127 to R129: a poll ended. BUSY LIMIT, to which the SENSE of a poll can come (R122) and for which R128 has no row, has no effect in IDLE
but the next poll (assumption 47). -/
def State.pollEnded (p : Nat) (o : OrderOutcome) (s : State) : State :=
  let record := match o with | .good returned => readStatusRecord returned | _ => none
  match (s.port p).state, o, record with
  | .notReady, _, some r =>
    if r.ready then
      ((s.onPort p fun x => { x with readyTimer := none }).enterPolling p .idle).idlePoll p r
    else s.pollLater p
  | .notReady, _, none => s.pollLater p
  | .idle, _, some r =>
    if r.ready then (s.pollLater p).idlePoll p r
    else (s.onPort p fun x => { x with attention := r.attention }).enterPolling p .attention
  | .idle, .check k, none => if k.isAttention then s.enterPolling p .attention else s.pollLater p
  | .idle, .noAnswer, none | .idle, .aborted, none => s.enterNotReady p
  | .idle, _, none => s.pollLater p
  | .attention, _, some r =>
    if r.ready then ((s.onPort p fun x => { x with attention := .none }).enterPolling p .idle).idlePoll p r
    else (s.onPort p fun x => { x with attention := r.attention }).pollLater p
  | .attention, .noAnswer, none | .attention, .aborted, none => s.enterNotReady p
  | .attention, _, none => s.pollLater p
  | .disabled, _, _ | .failed, _, _ | .busy, _, _ => s

/-! ### Orders -/

/-- R130: what an outcome leaves in the record of a claimed port. -/
def Port.noteOutcome (kind : OrderKind) (o : OrderOutcome) (p : Port) : Port :=
  let p := match kind, o with
    | .setLayout, .good _ => { p with loaded := some ((p.order.map Order.bookType).getD 0) }
    | .setLayout, _ => { p with loaded := none }
    | .statusRequest, .good returned => { p with lastStatus := readStatusRecord returned }
    | _, _ => p
  match o with
  | .noAnswer | .aborted => if p.claimed then { p with readinessLost := true } else p
  | _ => p

/-- The current order of port p ends with an outcome (R121, R122, R125, R130): a poll is judged, an order of the Passbook Line
Manager is reported to it. -/
def State.orderEnds (p : Nat) (o : OrderOutcome) (s : State) : State :=
  let r := s.port p
  let kind := (r.order.map Order.kind).getD .statusRequest
  let s := s.onPort p fun x => (x.dropSelect.noteOutcome kind o).clearOrder
  if r.poll then s.pollEnded p o else s.orderEnded p kind o

/-- R119, R120: the dialogue at port p is aborted, by a reset pulse. -/
def State.abortDialogue (p : Nat) (s : State) : State := (s.onPort p Port.abort).orderEnds p .aborted

/-- R117: the select timer expired. -/
def State.noAnswer (p : Nat) (s : State) : State :=
  (s.onPort p fun x => { x.dropSelect with counters := { x.counters with noAnswers := bump x.counters.noAnswers } }).orderEnds p
    .noAnswer

/-- R121: a dialogue that closed BUSY. A STATUS REQUEST that a poll carries is not tried again. -/
def State.busyClosed (p : Nat) (s : State) : State :=
  let s := s.onPort p fun x => { x with counters := { x.counters with busies := bump x.counters.busies } }
  let r := s.port p
  if r.sensing then
    if r.senseAttempts < 6 then s.onPort p Port.retryWait else s.orderEnds p .busyLimit
  else if r.poll then s.orderEnds p .busy
  else if r.attempts < 6 then s.onPort p Port.retryWait
  else s.orderEnds p .busyLimit

/-- R122: a dialogue that closed CHECK. -/
def State.checkClosed (p : Nat) (s : State) : State :=
  let s := s.onPort p fun x => { x with counters := { x.counters with checks := bump x.counters.checks } }
  if (s.port p).sensing then s.abortDialogue p else s.onPort p Port.startSense

/-- R120, R122: a dialogue that closed GOOD. -/
def State.goodClosed (p : Nat) (s : State) : State :=
  let r := s.port p
  if returnFits r.carried.kind r.returned r.overlong then
    if r.sensing then
      match readSense r.returned with
      | some k => (s.onPort p (Port.takeSense k)).orderEnds p (.check k)
      | none => s.abortDialogue p
    else s.orderEnds p (.good r.returned)
  else s.abortDialogue p

/-- R120: what an end byte does to the port record: the dialogue counter, and a printer reset reported. -/
def Port.takeEndByte (b : Byte) (p : Port) : Port :=
  let p := { p.dropSelect with counters := { p.counters with dialogues := bump p.counters.dialogues } }
  if b = 0 then p
  else { p with loaded := none, counters := { p.counters with resets := bump p.counters.resets } }

/-- R119, R120: CLOSE-IN took its end byte. -/
def State.closeDialogue (p : Nat) (b : Byte) (s : State) : State :=
  let s := s.onPort p (Port.takeEndByte b)
  match (s.port p).status with
  | none => s.abortDialogue p
  | some st =>
    if st = statusGood then s.goodClosed p
    else if st = statusBusy then s.busyClosed p
    else if st = statusCheck then s.checkClosed p
    else s.abortDialogue p

/-- R118, R119: STATE-IN took its status byte. -/
def State.takeStatusByte (p : Nat) (b : Byte) (s : State) : State :=
  if b = statusGood || b = statusBusy || b = statusCheck then
    s.onPort p fun x => { x with status := some b, dialogue := .waiting, stepTimer := some Config.phaseStepMs }
  else s.abortDialogue p

/-! ### Ports as a whole -/

/-- R131: port p disabled, when it is not DISABLED. -/
def State.disablePort (p : Nat) (s : State) : State :=
  let r := s.port p
  if r.state = .disabled then s
  else
    let s := s.onPort p fun x =>
      { x.dropSelect.pulse.clearOrder with
        readyTimer := none, pollTimer := none, bookSeen := false, attention := .none, readinessLost := false, claimed := false }
    let s := if r.claimed then s.claimEnded p else s
    s.setPortState p .disabled

/-- R127: the ready wait expired: the dialogue is broken off without a reset pulse, and the port enters FAILED. -/
def State.readyWaitOver (p : Nat) (s : State) : State :=
  (s.onPort p fun x => { x.dropSelect.clearOrder with readyTimer := none, pollTimer := none }).setPortState p .failed

/-- R134: one port's warm start. Every claim ends without the Passbook Line Manager being told. -/
def State.warmPort (p : Nat) (s : State) : State :=
  let st := (s.port p).state
  let s := s.onPort p fun x =>
    let x := { x.dropSelect.clearOrder with readyTimer := none, pollTimer := none, claimed := false, loaded := none }
    if st = .disabled then x else x.pulse
  if st = .disabled ∨ st = .failed then s
  else (s.onPort p fun x => { x with readinessLost := false }).enterNotReady p

end Sys2Proof.Machine
end

