-- ==== Sys2Proof/Machine/Operands.lean ====
section
/-! DEFINITION. What arrives from outside, taken apart: the answers of a station (R2, R3), the request body (R41), the reply body
(R49), and the passbook lines of LOAD PENDING (R152). -/

namespace Sys2Proof.Machine

/-! ### Answers of a station (R2, R3) -/

/-- The kind bytes of an answer (spec 11, "Station loop frame"). -/
def kindNil : Byte := 0x20
def kindReq : Byte := 0x21
def kindAlertAck : Byte := 0x22
def kindTestEcho : Byte := 0x23

/-- R2: the report byte's reserved positions are zero. -/
def reportSound (report : Byte) : Bool := report.toNat < 2

/-- R2: the frame refused indication. -/
def frameRefused (report : Byte) : Bool := bitSet report 0

/-- R3: whether a complete answer with a good check is not discarded: its kind, its length and its report byte suit what the visit
waits for. `body` is the body with its report byte. -/
def answerSuits (awaited : Awaited) (kind : Byte) (body : List Byte) : Bool :=
  (match awaited with
    | .poll =>
      if kind = kindNil || kind = kindAlertAck then body.length = 1 else if kind = kindReq then 2 ≤ body.length else false
    | .test expected => kind = kindTestEcho && body.length = 1 + expected.length)
  && (match body with | report :: _ => reportSound report | [] => false)

/-- The outcomes of R3 that characters can decide. `firstCharacter` is a wrong address or an unmarked first character, after which
the part waits for the line to be at mark; `undecided` is an answer that is not complete. -/
inductive Verdict where
  | undecided | firstCharacter | framing | check | discarded | good
  deriving DecidableEq, Repr

/-- R3: an answer classified from its characters as they arrived. -/
def classify (station : Nat) (awaited : Awaited) : List LoopChar → Verdict
  | [] => .undecided
  | c :: rest =>
    if !c.marked || c.data.toNat != station then .firstCharacter
    else if !c.stopOk then .framing
    else
      let length := match rest with | _ :: l :: _ => l.data.toNat | _ => 0
      let frame := rest.take (length + 3)
      if frame.any fun x => !x.stopOk || x.marked then .framing
      else if rest.length < length + 3 then .undecided
      else
        let bytes := frame.map LoopChar.data
        if (c.data :: bytes).foldl (· + ·) 0 != 0 then .check
        else if answerSuits awaited (bytes.getD 0 0) ((bytes.drop 2).take length) then .good
        else .discarded

/-! ### The request body (R41) -/

/-- A pair of a breakdown: a denomination index and a count from 1 to 9,999. -/
def readPair : Reader Pair :=
  (Reader.nat 1).andThen fun denom => (Reader.natIn 2 1 9999).map fun count => { denom, count }

/-- A cash leg; its reserved field must be zero. -/
def readReqLeg : Reader ReqLeg :=
  (Reader.nat 1).andThen fun currency =>
  (Reader.named 1 (nameIn directionNames) default).andThen fun dir =>
  (Reader.reserved.map id id).andThen fun _ =>
  (Reader.nat 5).andThen fun amount =>
  (Reader.list 1 12 readPair).map fun pairs => { currency, dir, amount, pairs }

def readRequestBody : Reader Request :=
  (Reader.nat 1).andThen fun kind =>
  (Reader.opt (Reader.digits 12)).andThen fun account =>
  (Reader.list 0 2 readReqLeg).andThen fun legs =>
  (Reader.list 0 8 (Reader.text 0 40)).map fun fields => { kind, account, legs, fields }

/-- R41: a request body; none when it is malformed. -/
def readRequest (body : List Byte) : Option Request := readRequestBody.wellFormed body

/-! ### The reply body (R49) -/

/-- A passbook line as a reply carries it, its item count 1 (R140). -/
def readPassbookLine : Reader LineIn :=
  (Reader.digits 12).andThen fun account => (Reader.natIn 1 0 7).andThen fun bookType =>
  (Reader.digits 8).andThen fun date => (Reader.text 0 16).andThen fun description =>
  (Reader.int 8).andThen fun amount => (Reader.int 8).andThen fun balance =>
  (Reader.digits 12).map fun reference => { account, bookType, date, description, amount, balance, reference, items := 1 }

/-- A value put into a list ordered by number. -/
def insertField (f : Nat × Text) : List (Nat × Text) → List (Nat × Text)
  | [] => [f]
  | g :: l => if f.1 < g.1 then f :: g :: l else g :: insertField f l

/-- Field values in ascending number. -/
def sortFields (l : List (Nat × Text)) : List (Nat × Text) := l.foldl (fun acc f => insertField f acc) []

/-- R49: the data fields, no field number twice. -/
def readDataFields : Reader (List (Nat × Text)) :=
  (Reader.list 0 32 ((Reader.natIn 1 1 32).andThen fun n => (Reader.text 0 40).map fun t => (n, t))).map sortFields
    fun l => (l.map Prod.fst).Nodup

def readReplyBody : Reader Reply :=
  (Reader.natIn 1 1 2).andThen fun result =>
  ((Reader.nat 1).map id fun reason => (result == 1) == (reason == 0)).andThen fun reason =>
  (Reader.natIn 1 0 96).andThen fun format =>
  (Reader.opt (Reader.digits 12)).andThen fun reference =>
  (Reader.list 0 2 (Reader.natIn 5 1 Config.maxAmount)).andThen fun amounts =>
  readDataFields.andThen fun data =>
  (Reader.opt readPassbookLine).andThen fun line =>
  (Reader.reserved.map id id).map fun _ =>
    { approved := result = 1
      reason := if reason = 0 then none else some reason
      format := if format = 0 then none else some format
      reference, amounts, data, line }

/-- R49: a reply body; none when it is malformed. -/
def readReply (body : List Byte) : Option Reply := readReplyBody.wellFormed body

/-! ### The lines of LOAD PENDING (R152) -/

/-- R152: one line of LOAD PENDING. Its amount and balance are judged as they arrive (R140). -/
def readPendingLine : Reader LineIn :=
  (Reader.digits 12).andThen fun account => (Reader.natIn 1 0 7).andThen fun bookType =>
  (Reader.digits 8).andThen fun date => (Reader.text 0 16).andThen fun description =>
  (Reader.int 8).andThen fun amount => (Reader.int 8).andThen fun balance =>
  (Reader.digits 12).andThen fun reference =>
  (Reader.natIn 2 1 9999).map fun items => { account, bookType, date, description, amount, balance, reference, items }

end Sys2Proof.Machine
end

