-- ==== Sys2Proof/Machine/Router.lean ====
section
/-! DEFINITION. The Transaction Router: intake (R41 to R45), acceptance (R46 to R48), completions (R51, R52), deadlines and late replies
(R53 to R55), the link-lost event (R56), local, branch-only and stand-in completions (R57 to R59), and the forwarder (R60 to
R62). -/

namespace Sys2Proof.Machine

/-! ### Kinds and legs (R39, R42, R43) -/

/-- R42: the classes that need a drawer. -/
def KindClass.needsDrawer : KindClass → Bool
  | .cashIn | .cashOut | .exchange | .toReserve | .fromReserve | .balance | .closeDrawer => true
  | .enquiry | .account | .signOn | .signOff | .closeDay => false

/-- R42: the classes refused in CLOSING. -/
def KindClass.refusedInClosing (c : KindClass) : Bool := c.needsDrawer || c = .closeDay

/-- R43, R71: the classes whose legs are cash rounded. -/
def KindClass.rounds : KindClass → Bool
  | .cashIn | .cashOut | .exchange => true
  | _ => false

/-- R39: whether the number and directions of the legs suit the class. -/
def KindClass.legsSuit (c : KindClass) (dirs : List Direction) : Bool :=
  match c with
  | .enquiry | .account | .signOn | .signOff | .closeDrawer | .closeDay => dirs = []
  | .cashIn | .fromReserve | .balance => dirs = [.cashIn]
  | .cashOut | .toReserve => dirs = [.cashOut]
  | .exchange => dirs = [.cashIn, .cashOut] || dirs = [.cashOut, .cashIn]

/-- R43, R71: a leg with its cash amount and rounding result. -/
def makeLeg (t : Tables) (c : KindClass) (l : ReqLeg) : Leg :=
  let cash := if c.rounds then
      match t.currency l.currency with
      | some x => cashRound x.cashUnit l.amount
      | none => l.amount
    else l.amount
  { currency := l.currency, dir := l.dir, amount := l.amount, cash
    rounding := if c.rounds then roundingResult l.dir l.amount cash else 0, pairs := l.pairs }

/-! ### Intake (R42 to R44) -/

/-- R42, check 5. -/
def dayReason (c : KindClass) : DayState → Option Reason
  | .noDay => some .dayNotOpen
  | .opened => none
  | .closing => if c.refusedInClosing then some .dayClosing else none
  | .closed | .sending | .suspended | .sent | .rejected | .failed => some .dayClosed

/-- R42, check 2: whether the role test fails. -/
def roleFails (k : KindEntry) (e : StationEntry) : Bool :=
  ((k.supervisorOnly || k.cls = .closeDay) && e.role != .supervisor)
  || (e.role = .enquiry && k.cls != .enquiry && k.cls != .signOn && k.cls != .signOff)
  || (k.cls.needsDrawer && e.drawer.isNone)

/-- R42, check 6. -/
def State.drawerReason (s : State) (c : KindClass) (d : Nat) : Option Reason :=
  if !(s.drawer d).isOpen || ((c = .toReserve || c = .fromReserve) && !(s.drawer 0).isOpen) then some .drawerClosed
  else if (c = .balance || c = .closeDrawer) && (s.drawer d).hasReserved then some .drawerBusy
  else none

/-- R43, check 10: the pairs of a breakdown taken one by one; `seen` holds the indexes of earlier pairs. -/
def pairsReason (denoms : List Denomination) : List Nat → List Pair → Option Reason
  | _, [] => none
  | seen, p :: ps =>
    if denoms.length ≤ p.denom then some .badCurrency
    else if seen.contains p.denom then some .breakdownMismatch
    else pairsReason denoms (p.denom :: seen) ps

/-- R43, check 10, for one leg. -/
def breakdownReason (t : Tables) (l : Leg) : Option Reason :=
  match pairsReason (t.denom l.currency) [] l.pairs with
  | some r => some r
  | none => if pairsValue (t.denom l.currency) l.pairs = l.cash then none else some .breakdownMismatch

/-- R43, check 11: whether a drawer lacks the pieces of a leg, its on-hand less its reserved counts. -/
def notesShort (d : Drawer) (l : Leg) : Bool :=
  l.pairs.any fun p =>
    let x := (look d.currencies l.currency).pieces.getD p.denom default
    x.onHand < x.reserved + p.count

/-- R43, checks 7 to 12, each over all legs in order before the next begins. `d` is the station's drawer. -/
def State.legsReason (s : State) (c : KindClass) (d : Option Nat) (legs : List Leg) : Option Reason :=
  let t := s.tables
  if legs.any (fun l => (t.currency l.currency).isNone)
      || (c = .exchange && !(legs.map Leg.currency).Nodup) then some .badCurrency
  else if legs.any fun l => t.denom l.currency = [] then some .noDenominations
  else if !c.legsSuit (legs.map Leg.dir)
      || legs.any (fun l => l.amount < 1 || Config.maxAmount < l.amount || l.cash = 0) then some .amountRange
  else
    match legs.findSome? (breakdownReason t) with
    | some r => some r
    | none =>
      if legs.any fun l =>
          (c = .fromReserve && notesShort (s.drawer 0) l)
          || (l.dir = .cashOut && notesShort (s.drawer (d.getD 0)) l) then some .notesShort
      else if legs.any fun l => l.dir = .cashIn && (s.drawer (d.getD 0)).limit = .over then some .drawerOverLimit
      else none

/-- R44, checks 13 to 15. -/
def State.roomReason (s : State) (k : KindEntry) (d : Option Nat) (legs : List Leg) : Option Reason :=
  let up := s.uplink.link = .up
  if !s.journalRoom then some .journalFull
  else if !k.forwarded || up then none
  else if !k.standIn || !s.params.standInEnable
      || (outLegs legs).any (fun l => s.params.floorLimit < (s.tables.postedOf l).1.base) then some .lineDown
  else if outLegs legs != [] && s.params.budget < (s.drawer (d.getD 0)).standIn + s.tables.outBase legs then
    some .standInLimit
  else none

/-- R42 to R44: checks 1 to 15 of a request of kind entry k at station a; the first that fails gives the reason. -/
def State.intakeReason (s : State) (a : Nat) (r : Request) : Option Reason :=
  match s.tables.kind r.kind with
  | none => some .unknownKind
  | some k =>
    let e := s.tables.station a
    let legs := r.legs.map (makeLeg s.tables k.cls)
    if roleFails k e then some .role
    else if (s.station a).state != .signed && k.cls != .signOn then some .notSigned
    else if s.router.hasEntry a then some .busy
    else
      (dayReason k.cls s.day.state).orElse fun _ =>
      (if k.cls.needsDrawer then s.drawerReason k.cls (e.drawer.getD 0) else none).orElse fun _ =>
      (s.legsReason k.cls e.drawer legs).orElse fun _ => s.roomReason k e.drawer legs

/-! ### Counters -/

def State.countRouter (f : RouterCounters → RouterCounters) (s : State) : State :=
  s.onRouter fun r => { r with counters := f r.counters }

/-- R45: a refusal, counted under its reason and composed. -/
def State.refuse (a : Nat) (r : Reason) (s : State) : State :=
  (s.countRouter fun c => { c with refusals := put c.refusals (r.number - 1) (bump (look c.refusals (r.number - 1))) }).composeRefusal
    a r

/-- R41: a malformed request body, counted and composed as a refusal. -/
def State.malformed (a : Nat) (s : State) : State :=
  (s.countRouter fun c => { c with malformed := bump c.malformed }).composeRefusal a .notUnderstood

/-! ### Acceptance (R46 to R48) -/

/-- A breakdown as a request body carries it (spec 11). -/
def encPairs (pairs : List Pair) : List Byte := encList (fun p => by1 p.denom ++ be 2 p.count) pairs

/-- Spec 11: the body of a REQUEST block of a station. -/
def stationBody (time a : Nat) (teller : Option Text) (drawer : Option Nat) (r : Request) (legs : List Leg) : List Byte :=
  by1 1 ++ be 2 0 ++ be 3 time ++ by1 a ++ encText (teller.getD []) ++ by1 (drawer.getD 0xFF) ++ by1 r.kind
  ++ encOpt id r.account
  ++ encList (fun l => by1 l.currency ++ by1 (codeIn directionNames l.dir) ++ be 5 l.amount ++ be 5 l.cash ++ encPairs l.pairs)
      legs
  ++ encList encText r.fields

/-- R48: the reply timeout in seconds; 0 means 30. -/
def BranchParams.timeout (p : BranchParams) : Nat := if p.replyTimeout = 0 then 30 else p.replyTimeout

/-- R46: a forwarded request with the link UP: its block offered, and when it is taken, its OUT legs reserved and its entry made. -/
def State.acceptRequest (a : Nat) (r : Request) (legs : List Leg) (s : State) : State :=
  let tag : Tag := ⟨a, look s.router.sequences (a - 1)⟩
  let drawer := (s.tables.station a).drawer
  if !s.uplink.dataRoom then s.refuse a .lineCongested
  else
    let block : TxBlock :=
      ⟨.request, (tagField tag), stationBody s.mgmt.clock a (s.station a).teller drawer r legs⟩
    let entry : OutEntry :=
      { tag, kind := r.kind, station := a, drawer, state := .queued, acceptance := s.mgmt.clock
        deadline := s.mgmt.clock + s.params.timeout, account := r.account, legs, journalSeq := none
        timer := some (1000 * s.params.timeout) }
    let s := s.onUplink (Uplink.pushData block)
    let s := match drawer with
      | some d => s.reserveLegs d legs
      | none => s
    s.onRouter fun x =>
      { x with table := x.table ++ [entry], sequences := put x.sequences (a - 1) ((tag.sequence + 1) % 256) }

/-! ### Completions (R51 to R54) -/

/-- R158: the legs of a completion that posts, with the posting record at the current rates. -/
def postedLegs (t : Tables) (legs : List Leg) : List JLeg :=
  legs.map fun l => { currency := l.currency, dir := l.dir, amount := l.amount, cash := l.cash
                      posted := some (t.postedOf l).1, inDoubt := false }

/-- R53, R158: the legs of a completion that posts nothing, the OUT legs in doubt or not. -/
def unpostedLegs (inDoubt : Bool) (legs : List Leg) : List JLeg :=
  legs.map fun l => { currency := l.currency, dir := l.dir, amount := l.amount, cash := l.cash
                      posted := none, inDoubt := inDoubt && l.dir = .cashOut }

/-- R54: the unanswered record of an entry. -/
def OutEntry.unanswered (e : OutEntry) : Unanswered :=
  { tag := e.tag, kind := e.kind, drawer := e.drawer, account := e.account, legs := unpostedLegs false e.legs }

/-- R47, R160: an entry leaves the table, and with it any other that holds its tag (assumption 51). -/
def State.dropEntry (e : OutEntry) (s : State) : State :=
  s.onRouter fun r => { r with table := r.table.filter fun x => x.tag ≠ e.tag }

/-- R52: the teller ID of a completion: field 1 of the reply for an approved SIGN-ON (R159), the station's otherwise. -/
def State.completionTeller (e : OutEntry) (signOn : Option Text) (s : State) : Option Text :=
  match signOn with
  | some t => some t
  | none => (s.station e.station).teller

/-- R52, R159: the journal entry of a completed outstanding entry. -/
def completionEntry (e : OutEntry) (teller : Option Text) (result : Result) (legs : List JLeg) (reply : Option Reply) : JEntry :=
  { JEntry.ofKind (if result = .mismatch then .mismatch else .transaction) with
    station := some e.station, teller, drawer := e.drawer, txKind := some e.kind, account := e.account
    result := some result
    reason := if result = .declined then reply.bind Reply.reason else none
    legs
    reference := reply.bind Reply.reference }

/-- R52: what a completion hands to the Passbook Line Manager. -/
def State.completionLine (passbook : Bool) (result : Result) (reply : Option Reply) (s : State) : State :=
  match reply.bind Reply.line with
  | none => s
  | some l =>
    if result = .approved && passbook then (s.lineArrives l).1
    else s.countRouter fun c => { c with droppedLines := bump c.droppedLines }

/-- R52, steps 2 to 5: the Journal, the Station Loop Controller, the Screen Composer and the Passbook Line Manager are served, and then the
entry leaves the table. -/
def State.completionRest (e : OutEntry) (result : Result) (legs : List JLeg) (signOn : Option Text) (reply : Option Reply)
    (s : State) : State :=
  let written := s.journalWrite (completionEntry e (s.completionTeller e signOn) result legs reply)
  let s := written.1
  let s := match signOn with
    | some t => s.signOn e.station t
    | none => s
  let inDoubt := legs.any JLeg.inDoubt
  let format := if result = .approved || result = .declined then
      reply.bind fun r => r.format.map fun n => (n, r.data)
    else none
  let s := s.composeCompletion e.station format (resultAlert result (reply.bind Reply.reason) inDoubt written.2)
  let passbook := match s.tables.kind e.kind with | some k => k.passbook | none => false
  (s.completionLine passbook result reply).dropEntry e

/-- R52, R54, R74, R77: a non-forward entry completes. Returns the drawers left free, whose notices the caller acts on when `held` is
set (R191); otherwise they are acted on before the Journal is served (R173). -/
def State.completeEntry (held : Bool) (e : OutEntry) (result : Result) (inDoubt : Bool) (signOn : Option Text)
    (reply : Option Reply) (s : State) : State × List Nat :=
  let legs := if result = .approved then postedLegs s.tables e.legs else unpostedLegs inDoubt e.legs
  let r := if result = .approved then s.postCompletion e.drawer true false e.legs else s.releaseLegs e.drawer e.legs
  let s := if held then r.1 else r.1.drawersFree r.2
  let s := if legs.any JLeg.inDoubt then
      s.onRouter fun x => { x with unanswered := put x.unanswered (e.station - 1) (some e.unanswered) }
    else s
  (s.completionRest e result legs signOn reply, r.2)

/-- R52: a completion whose notices are acted on as they are given. -/
def State.complete (e : OutEntry) (result : Result) (inDoubt : Bool) (signOn : Option Text) (reply : Option Reply) (s : State) :
    State := (s.completeEntry false e result inDoubt signOn reply).1

/-! ### Replies (R50, R51, R55, R61) -/

/-- The entry with a tag. -/
def Router.entry (r : Router) (tag : Tag) : Option OutEntry := r.table.find? fun e => e.tag = tag

/-- R50, R53, R61: the REQUEST block of an entry in QUEUED withdrawn; true when it was withdrawn. -/
def State.withdrawRequest (e : OutEntry) (s : State) : State × Bool :=
  let r := s.uplink.withdraw .request (tagField e.tag)
  (s.onUplink fun _ => r.1, r.2)

/-- R51: the teller ID an APPROVED SIGN-ON reply carries in field 1, when it is one. -/
def replyTeller (r : Reply) : Option Text :=
  match fieldValue r.data 1 with
  | some t => if 1 ≤ t.length && t.length ≤ 8 then some t else none
  | none => none

/-- R51: the result of a matched reply. -/
def replyResult (e : OutEntry) (signOn : Bool) (r : Reply) : Result :=
  if !r.approved then .declined
  else if r.amounts != e.legs.map Leg.amount then .mismatch
  else if signOn && (replyTeller r).isNone then .mismatch
  else .approved

/-- R50, R51: a reply matched to a non-forward entry. -/
def State.replyMatched (e : OutEntry) (r : Reply) (s : State) : State :=
  let s := if e.state = .queued then (s.withdrawRequest e).1 else s
  let signOn : Bool := match s.tables.kind e.kind with | some k => k.cls = .signOn | none => false
  let result := replyResult e signOn r
  let s := if result = .mismatch then s.giveAlerts s.supervisors ⟨.replyMismatch, e.station⟩ else s
  s.complete e result false (if signOn && result = .approved then replyTeller r else none) (some r)

/-- R61: a reply matched to a forward entry. -/
def State.forwardReplied (e : OutEntry) (r : Reply) (s : State) : State :=
  let s := if e.state = .queued then (s.withdrawRequest e).1 else s
  let sequence := e.journalSeq.getD 0
  let s := s.dropEntry e
  if r.approved then
    let s := s.onJournal (Journal.setForward sequence .forwarded)
    let s := s.countRouter fun c => { c with forwarded := bump c.forwarded }
    let passbook := match s.tables.kind e.kind with | some k => k.passbook | none => false
    s.completionLine passbook .approved (some r)
  else
    let s := s.onJournal (Journal.setForward sequence .declined)
    let s := s.countRouter fun c => { c with forwardDeclined := bump c.forwardDeclined }
    (s.giveAlerts s.supervisors ⟨.standInDeclined, sequence⟩).completionLine false .declined (some r)

/-- R55: a late reply. Its passbook line, if it carries one, is not handed on, and is not counted as dropped (assumption 49). -/
def State.lateReply (tag : Tag) (r : Reply) (s : State) : State :=
  let s := s.countRouter fun c => { c with lateReplies := bump c.lateReplies }
  if r.approved && r.amounts != [] && isStation tag.station && s.day.state.inBusiness then
    let base := { JEntry.ofKind .late with station := some tag.station, result := some .late, reference := r.reference }
    let record := look s.router.unanswered (tag.station - 1)
    let used := record.filter fun u => u.tag = tag
    let entry := match used with
      | some u => { base with
          txKind := some u.kind, drawer := u.drawer, account := u.account
          legs := u.legs.map fun l => { l with inDoubt := true } }
      | none => base
    let s := if used.isSome then
        s.onRouter fun x => { x with unanswered := put x.unanswered (tag.station - 1) none }
      else s
    let s := (s.journalOffer entry).1
    s.giveAlerts s.supervisors ⟨.lateApproval, tag.station⟩
  else s

/-- R49, R50: a REPLY block taken. -/
def State.takeReply (tag : Tag) (body : List Byte) (s : State) : State :=
  match readReply body with
  | none => s.countRouter fun c => { c with badReplies := bump c.badReplies }
  | some r =>
    match s.router.entry tag with
    | none => s.lateReply tag r
    | some e => if e.isForward then s.forwardReplied e r else s.replyMatched e r

/-! ### Deadlines (R53, R61, R62) -/

/-- R53: a non-forward entry's deadline expires. -/
def State.timedOut (e : OutEntry) (s : State) : State :=
  let w := if e.state = .queued then s.withdrawRequest e else (s, false)
  let s := w.1.countRouter fun c => { c with timedOut := bump c.timedOut }
  s.complete e .timedOut (!w.2) none none

/-- R61, R62: a forward entry's deadline expires; in CLOSING its journal entry is set aside. -/
def State.forwardTimedOut (e : OutEntry) (s : State) : State :=
  let s := if e.state = .queued then (s.withdrawRequest e).1 else s
  let s := s.dropEntry e
  if s.day.state = .closing then s.onRouter fun r => { r with setAside := r.setAside ++ [e.journalSeq.getD 0] } else s

/-! ### The link-lost event and the warm start (R56, R65) -/

/-- R56, R65: every non-forward entry completes LINK LOST in order of acceptance, and every forward entry leaves the table. Returns
the drawers left free and the number of completions. -/
def State.loseEntries (held : Bool) (s : State) : State × List Nat × Nat :=
  let es := s.router.stationEntries
  let r := es.foldl (fun (acc : State × List Nat) e =>
    let x := acc.1.completeEntry held e .linkLost (e.state = .sent) none none
    (x.1, acc.2 ++ x.2)) (s, [])
  (r.1.onRouter fun x => { x with table := x.table.filter fun e => !e.isForward }, r.2, es.length)

/-! ### Completions at the branch (R57 to R59) -/

/-- R57 to R59, R103: a completion at the branch composed with the kind's local format. -/
def State.composeLocal (a : Nat) (k : KindEntry) (account : Option Text) (legs : List JLeg) (standIn : Bool) (sequence : Nat)
    (s : State) : State :=
  s.composeCompletion a (some (k.localFormat, localFields s.tables account legs standIn sequence s.mgmt.clock))
    (resultAlert (if standIn then .standIn else .approved) none false sequence)

/-- R159: the TRANSACTION entry of a completion at the branch. -/
def State.localEntry (a : Nat) (r : Request) (result : Result) (legs : List JLeg) (s : State) : JEntry :=
  { JEntry.ofKind .transaction with
    station := some a, teller := (s.station a).teller, drawer := (s.tables.station a).drawer, txKind := some r.kind
    account := r.account, result := some result, legs }

/-- R58: a branch-only completion. -/
def State.branchOnly (a : Nat) (k : KindEntry) (r : Request) (legs : List Leg) (s : State) : State :=
  let jlegs := postedLegs s.tables legs
  let p := s.postCompletion (s.tables.station a).drawer false false legs
  let s := p.1.drawersFree p.2
  let w := s.journalWrite (s.localEntry a r .approved jlegs)
  w.1.composeLocal a k r.account jlegs false w.2

/-- R59: a stand-in completion. -/
def State.standIn (a : Nat) (k : KindEntry) (r : Request) (legs : List Leg) (s : State) : State :=
  let jlegs := postedLegs s.tables legs
  let p := s.postCompletion (s.tables.station a).drawer false true legs
  let s := p.1.drawersFree p.2
  let w := s.journalWrite { s.localEntry a r .standIn jlegs with forward := .unforwarded }
  let s := w.1.composeLocal a k r.account jlegs true w.2
  s.countRouter fun c => { c with standIns := bump c.standIns }

/-- R57, R84: a reserve transfer. -/
def State.reserveTransfer (a : Nat) (k : KindEntry) (r : Request) (l : Leg) (s : State) : State :=
  let jlegs := postedLegs s.tables [l]
  let p := s.transfer ((s.tables.station a).drawer.getD 0) (k.cls = .toReserve) l
  let s := p.1.drawersFree p.2
  let w := s.journalWrite (s.localEntry a r .approved jlegs)
  w.1.composeLocal a k r.account jlegs false w.2

/-- R57, R85: a BALANCE. -/
def State.balance (a : Nat) (k : KindEntry) (r : Request) (l : Leg) (s : State) : State :=
  let d := (s.tables.station a).drawer.getD 0
  let b := s.balanceDrawer d l
  let jleg : JLeg :=
    { currency := l.currency, dir := .cashIn, amount := l.amount, cash := l.amount, posted := none, inDoubt := false }
  let w := b.1.journalWrite
    { JEntry.ofKind .drawerBalanced with
      station := some a, teller := (s.station a).teller, drawer := some d, txKind := some r.kind
      result := some .approved, legs := [jleg], detail := some (.balanced b.2.1 b.2.2.1 b.2.2.2) }
  w.1.composeLocal a k r.account [jleg] false w.2

/-- R57, R86: a CLOSE DRAWER. -/
def State.closeDrawerRequest (a : Nat) (k : KindEntry) (r : Request) (s : State) : State :=
  let d := (s.tables.station a).drawer.getD 0
  let c := s.closeDrawer d
  let w := c.1.journalWrite
    { JEntry.ofKind .drawerClosed with
      station := some a, teller := (s.station a).teller, drawer := some d, txKind := some r.kind
      result := some .approved, detail := some (.closed c.2.1 c.2.2) }
  w.1.composeLocal a k r.account [] false w.2

/-- R58: a SIGN-OFF, journaled before the teller ID is cleared. -/
def State.signOffRequest (a : Nat) (k : KindEntry) (r : Request) (s : State) : State :=
  let w := s.journalWrite (s.localEntry a r .approved [])
  (w.1.signOff a).composeLocal a k r.account [] false w.2

/-- R58: a supervisor's CLOSE DAY, journaled before the Day Close Unit is told. -/
def State.closeDayRequest (a : Nat) (k : KindEntry) (r : Request) (s : State) : State :=
  let w := s.journalWrite (s.localEntry a r .approved [])
  (w.1.composeLocal a k r.account [] false w.2).closeTheDay

/-- R57, R58: a request that passed intake and is not forwarded. -/
def State.completeLocally (a : Nat) (k : KindEntry) (r : Request) (legs : List Leg) (s : State) : State :=
  match k.cls, legs with
  | .toReserve, l :: _ | .fromReserve, l :: _ => s.reserveTransfer a k r l
  | .balance, l :: _ => s.balance a k r l
  | .closeDrawer, _ => s.closeDrawerRequest a k r
  | .signOff, _ => s.signOffRequest a k r
  | .closeDay, _ => s.closeDayRequest a k r
  | .enquiry, _ | .account, _ | .cashIn, _ | .cashOut, _ | .exchange, _ | .signOn, _ | .toReserve, [] | .fromReserve, []
  | .balance, [] => s.branchOnly a k r legs

/-- R41 to R46: a request body taken from station a. -/
def State.takeRequest (a : Nat) (body : List Byte) (s : State) : State :=
  match readRequest body with
  | none => s.malformed a
  | some r =>
    match s.intakeReason a r with
    | some reason => s.refuse a reason
    | none =>
      match s.tables.kind r.kind with
      | none => s.refuse a .unknownKind
      | some k =>
        let legs := r.legs.map (makeLeg s.tables k.cls)
        if !k.forwarded then s.completeLocally a k r legs
        else if s.uplink.link = .up then s.acceptRequest a r legs
        else s.standIn a k r legs

/-! ### The forwarder (R60) -/

/-- Spec 11: the body of a REQUEST block of a forward entry. -/
def forwardBody (e : JEntry) : List Byte :=
  by1 2 ++ be 2 e.sequence ++ be 3 e.time ++ by1 (e.station.getD 0) ++ encText (e.teller.getD []) ++ by1 (e.drawer.getD 0xFF)
  ++ by1 (e.txKind.getD 0) ++ encOpt id e.account
  ++ encList (fun l =>
      let p := l.posted.getD default
      by1 l.currency ++ by1 (codeIn directionNames l.dir) ++ be 5 l.amount ++ be 5 l.cash ++ be 7 p.base ++ be 5 p.rate) e.legs
  ++ by1 0

/-- R60: the UNFORWARDED entry of lowest sequence that no forward entry carries and that is not set aside. -/
def State.nextToForward (s : State) : Option JEntry :=
  s.journal.entries.find? fun e =>
    e.forward = .unforwarded && !s.router.setAside.contains e.sequence
    && !s.router.table.any fun o => o.journalSeq = some e.sequence

/-- R60: the conditions of the forwarder, but for an entry to carry. -/
def State.mayForward (s : State) : Bool :=
  s.uplink.link = .up && s.day.state.inBusiness && s.router.forwardEntries.length < Config.forwardEntries

/-- R47: a leg of a forward entry. Its rounding result follows from A, C and the direction (R71), which the journal entry holds; its
breakdown, which the journal entry does not hold (R158), is empty (assumption 44). -/
def forwardLeg (l : JLeg) : Leg :=
  { currency := l.currency, dir := l.dir, amount := l.amount, cash := l.cash, rounding := roundingResult l.dir l.amount l.cash, pairs := [] }

/-- R60: one forward entry made, when the conditions hold and the data queue takes its block; false when none was made. It is made though
another forward entry should still hold its tag (R47; DESIGN CHOICE, assumption 51). -/
def State.forwardOne (s : State) : State × Bool :=
  match s.mayForward && s.uplink.dataRoom, s.nextToForward with
  | true, some e =>
    let tag : Tag := ⟨0, s.router.forwarderSeq⟩
    let entry : OutEntry :=
      { tag, kind := e.txKind.getD 0, station := e.station.getD 0, drawer := e.drawer, state := .queued
        acceptance := s.mgmt.clock, deadline := s.mgmt.clock + s.params.timeout, account := e.account
        legs := e.legs.map forwardLeg
        journalSeq := some e.sequence, timer := some (1000 * s.params.timeout) }
    let s := s.onUplink (Uplink.pushData ⟨.request, (tagField tag), forwardBody e⟩)
    (s.onRouter fun r => { r with table := r.table ++ [entry], forwarderSeq := (tag.sequence + 1) % 256 }, true)
  | _, _ => (s, false)

/-- R60: forward entries made until a condition fails; at most 4 can be. -/
def State.forwardEntries : Nat → State → State
  | 0, s => s
  | n + 1, s =>
    let r := s.forwardOne
    if r.2 then State.forwardEntries n r.1 else r.1

/-- R62, R170: the router at OPEN DAY. -/
def Router.openDay (r : Router) : Router := { r with unanswered := Vector.replicate 24 none, setAside := [] }

/-- R34: a REQUEST block left the transmitter: its entry, every one that holds its tag (assumption 51), becomes SENT. -/
def Router.markSent (field : Nat) (r : Router) : Router :=
  { r with table := r.table.map fun e => if tagField e.tag = field then { e with state := .sent } else e }

end Sys2Proof.Machine
end

