-- ==== Sys2Proof/Machine/Batch.lean ====
section
/-! DEFINITION. The end-of-day batch: items as bytes (spec 11, "End-of-day segment"), their packing into segments (R176), the freeze
(R175), and each segment built from the frozen records (R177 to R179). -/

namespace Sys2Proof.Machine

/-! ### Journal entries (R178) -/

/-- Spec 11: an event detail. -/
def encDetail : Detail → List Byte
  | .balanced difference base rate => beInt 7 difference ++ beInt 7 base ++ be 5 rate
  | .closed unbalanced currencies => flag unbalanced ++ encList by1 currencies
  | .correction tag changes => be 2 tag ++ encList (fun ch => by1 ch.denom ++ beInt 4 ch.change) changes
  | .restart day linkLost => by1 (codeIn dayNames day) ++ by1 linkLost
  | .dayOpen date => date

/-- Spec 11: a leg of an export entry. A value of A or C above 2^40 - 1, which a CORRECTION can have (R89), is given by its low 5 bytes
(assumption 45). -/
def encJLeg (l : JLeg) : List Byte :=
  by1 l.currency
  ++ by1 ((if l.dir = .cashOut then 1 else 0) + (if l.inDoubt then 2 else 0) + (if l.posted.isSome then 4 else 0))
  ++ be 5 l.amount ++ be 5 l.cash
  ++ (match l.posted with | some p => be 7 p.base ++ be 5 p.rate | none => [])

/-- An optional field of an export entry: its mask position and its bytes, when it is present. -/
def maskField (position : Nat) (bytes : Option (List Byte)) : List (Nat × List Byte) :=
  match bytes with
  | some b => [(position, b)]
  | none => []

/-- Spec 11: the optional fields of an export entry, in mask order. -/
def exportFields (e : JEntry) : List (Nat × List Byte) :=
  maskField 0 (e.station.map by1) ++ maskField 1 (e.teller.map encText) ++ maskField 2 (e.drawer.map by1)
  ++ maskField 3 (e.txKind.map by1) ++ maskField 4 e.account
  ++ maskField 5 (e.result.map fun r => by1 (codeIn resultNames r)) ++ maskField 6 (e.reason.map by1)
  ++ maskField 7 e.reference
  ++ maskField 8 (e.detail.map fun d => by1 (encDetail d).length ++ encDetail d)

/-- R178, spec 11: an export entry. -/
def encEntryExport (e : JEntry) : List Byte :=
  let fields := exportFields e
  be 2 e.sequence ++ be 3 e.time ++ by1 (codeIn jkindNames e.kind)
  ++ be 2 ((fields.map fun f => 2 ^ f.1).sum) ++ encAll Prod.snd fields
  ++ encList encJLeg e.legs ++ by1 e.forward.code

/-! ### Pending lines (R178) -/

/-- Spec 11: a pending line with the account and book type of its slot. -/
def encPendingLine (a : Account) (l : PLine) : List Byte :=
  a.account ++ by1 a.bookType ++ l.reference ++ l.date ++ encText l.description ++ beInt 8 l.amount ++ beInt 8 l.balance
  ++ be 2 l.items ++ by1 (codeIn lineKindNames l.kind) ++ flag l.inPrint

/-- R176: the pending lines in account slot order and list order. -/
def Passbook.items (b : Passbook) : List (List Byte) := b.held.flatMap fun x => x.2.lines.map (encPendingLine x.2)

/-! ### Drawers (R177) -/

/-- R67: the NOTE or the COIN part of a currency total. -/
def partTotal (kind : DenomKind) (denoms : List Denomination) (pieces : List Pieces) : Nat :=
  (List.zipWith (fun d p => if d.kind = kind then d.face * p.onHand else 0) denoms pieces).sum

/-- R69: a balance record. -/
def encBalance (b : BalanceRec) : List Byte := be 7 b.counted ++ beInt 7 b.difference ++ beInt 7 b.base ++ be 3 b.time

/-- R176: whether a drawer's holding of a currency has moved or holds cash. -/
def DrawerCurrency.active (h : DrawerCurrency) : Bool :=
  h.pieces.any (fun p => p.onHand != 0) || h.dayIn != 0 || h.dayOut != 0 || h.rounding != 0 || h.balance.isSome

/-- R176: whether a drawer is reported. -/
def Drawer.reported (d : Drawer) : Bool :=
  d.currencies.toList.any DrawerCurrency.active || d.baseIn != 0 || d.baseOut != 0 || d.standIn != 0 || d.overflow || d.unbalanced

/-- Spec 11: a currency part. -/
def encCurrencyPart (t : Tables) (d : Drawer) (c : Nat) : List Byte :=
  let h := look d.currencies c
  let counts := (h.pieces.zipIdx.filter fun x => x.1.onHand != 0).map fun x => by1 x.2 ++ be 3 x.1.onHand
  by1 c ++ (match t.currency c with | some x => x.letters | none => [])
  ++ encList id counts
  ++ be 7 (partTotal .note (t.denom c) h.pieces) ++ be 7 (partTotal .coin (t.denom c) h.pieces)
  ++ be 7 h.dayIn ++ be 7 h.dayOut ++ beInt 7 h.rounding ++ encOpt encBalance h.balance

/-- R177: the currency parts of a drawer. -/
def drawerParts (t : Tables) (d : Drawer) : List (List Byte) :=
  (currencyNumbers.filter fun c => (t.currency c).isSome && (look d.currencies c).active).map (encCurrencyPart t d)

/-- The code of a drawer state: OPEN 01h, CLOSED 02h (R69, R206). -/
def drawerStateCode (isOpen : Bool) : Nat := if isOpen then 1 else 2

/-- Spec 11: what comes before the currency parts in a drawer's first segment, and in a later one. -/
def drawerHead (n : Nat) (d : Drawer) (first : Bool) : List Byte :=
  if first then
    by1 n ++ by1 1 ++ by1 (drawerStateCode d.isOpen) ++ flag d.overflow ++ flag d.unbalanced ++ be 7 d.position
    ++ by1 (codeIn limitNames d.limit) ++ be 7 d.baseIn ++ be 7 d.baseOut ++ be 7 d.standIn
  else by1 n ++ by1 2

/-! ### Packing (R176) -/

/-- An item put at the front of the first group. -/
def consGroup {α : Type} (x : α) : List (List α) → List (List α)
  | [] => [[x]]
  | g :: gs => (x :: g) :: gs

/-- R176: items shared among segments, as many whole items as fit: `room` bytes are left in the segment being filled, and every later
segment offers `next`. -/
def packGroups (next : Nat) : Nat → List (List Byte) → List (List (List Byte))
  | _, [] => [[]]
  | room, i :: is =>
    if i.length ≤ room then consGroup i (packGroups next (room - i.length) is)
    else [] :: consGroup i (packGroups next (next - i.length) is)

/-- Sections (spec 11). -/
inductive Section where
  | header | drawer | journal | pending | trailer
  deriving DecidableEq, Repr

/-- A segment before its header: its section, its item count and its bytes. -/
structure Segment where
  sec   : Section
  items : Nat
  bytes : List Byte
  deriving DecidableEq, Repr

/-- R176: the segments of a section of plain items; none when there is no item. -/
def plainSegments (sec : Section) (items : List (List Byte)) : List Segment :=
  if items = [] then []
  else (packGroups Config.segmentBytes Config.segmentBytes items).map fun g => ⟨sec, g.length, g.flatten⟩

/-- R176: the segments of a drawer; the first is made even with no currency to carry. -/
def drawerSegments (t : Tables) (n : Nat) (d : Drawer) : List Segment :=
  let groups := packGroups (Config.segmentBytes - (drawerHead n d false).length)
    (Config.segmentBytes - (drawerHead n d true).length) (drawerParts t d)
  groups.zipIdx.map fun g => ⟨.drawer, g.1.length, drawerHead n d (g.2 = 0) ++ g.1.flatten⟩

/-- R176: the DRAWER section. -/
def State.drawerSection (s : State) (drawers : List Nat) : List Segment :=
  drawers.flatMap fun n => drawerSegments s.tables n (s.drawer n)

/-- R176: the JOURNAL section. -/
def State.journalSection (s : State) : List Segment := plainSegments .journal (s.journal.entries.map encEntryExport)

/-- R176: the PENDING section. -/
def State.pendingSection (s : State) : List Segment := plainSegments .pending s.passbook.items

/-! ### The freeze (R175) -/

/-- R175: the freeze description of the records as they stand. -/
def State.describe (s : State) : FreezeDesc :=
  let drawers := drawerNumbers.filter fun n => (s.drawer n).reported
  let d := (s.drawerSection drawers).length
  let j := s.journalSection.length
  let l := s.pendingSection.length
  { branch := s.params.branch, date := s.day.date.getD [], time := s.mgmt.clock, drawers
    entries := s.journal.entries.length, lines := s.passbook.lineCount, accounts := s.passbook.accountCount
    firstDrawer := if d = 0 then 0 else 2
    firstJournal := if j = 0 then 0 else 2 + d
    firstPending := if l = 0 then 0 else 2 + d + j
    trailer := 2 + d + j + l
    segments := 2 + d + j + l }

/-- R175: the day frozen: the drawers still to be closed are force-closed in drawer order, the description is fixed, the day is CLOSED,
and the jobs in TURN WAIT are cleared. -/
def State.freezeDay (s : State) : State :=
  let s := (drawerNumbers.filter fun d => s.day.closePending.contains d).foldl (fun s d => s.closePendingDrawer d) s
  let desc := s.describe
  ((s.onDay fun x => { x with freeze := some desc }).setDay .closed).clearTurnWaits

/-- R174: the freeze condition judged in CLOSING. -/
def State.judgeFreeze (s : State) : State :=
  if s.day.state = .closing && s.freezeCondition then s.freezeDay else s

/-! ### Segments (R177 to R179) -/

/-- R177: the HEADER. -/
def headerSegment (f : FreezeDesc) : Segment :=
  ⟨.header, 0, be 3 f.time ++ be 2 1 ++ be 2 f.entries ++ by1 f.drawers.length ++ be 2 f.entries ++ be 2 f.lines
    ++ be 2 f.accounts ++ be 2 f.firstDrawer ++ be 2 f.firstJournal ++ be 2 f.firstPending ++ be 2 f.trailer
    ++ be 2 f.segments⟩

/-- R179: a cash control total, the sum of E over the legs of a direction in APPROVED and STAND-IN entries. -/
def controlTotal (dir : Direction) (entries : List JEntry) : Nat :=
  ((entries.filter fun e => e.result = some .approved || e.result = some .standIn).map fun e =>
    (e.legs.map fun l => if l.dir = dir then (match l.posted with | some p => p.base | none => 0) else 0).sum).sum

/-- R179: the account hash total. -/
def accountHash (entries : List JEntry) : Nat :=
  (entries.map fun e => match e.account with | some a => readDecimal a | none => 0).sum % 10 ^ 12

/-- R179: the TRAILER. -/
def trailerSegment (j : Journal) (f : FreezeDesc) : Segment :=
  ⟨.trailer, 0, be 2 f.entries ++ be 9 (controlTotal .cashIn j.entries) ++ be 9 (controlTotal .cashOut j.entries)
    ++ be 5 (accountHash j.entries) ++ be 2 j.omitted ++ be 2 f.segments⟩

/-- R176: the batch, segment 1 first. -/
def State.batch (s : State) (f : FreezeDesc) : List Segment :=
  headerSegment f :: s.drawerSection f.drawers ++ s.journalSection ++ s.pendingSection ++ [trailerSegment s.journal f]

/-- Section codes (spec 11). -/
def Section.code : Section → Nat
  | .header => 1 | .drawer => 2 | .journal => 3 | .pending => 4 | .trailer => 5

/-- Spec 11: the segment header of 17 bytes. -/
def segmentHeader (f : FreezeDesc) (k : Nat) (x : Segment) : List Byte :=
  be 2 f.branch ++ f.date ++ be 2 k ++ be 2 f.segments ++ by1 x.sec.code ++ by1 x.items ++ [0]

/-- R176, R181: segment k of the batch, as the EOD SEG block that carries it. -/
def State.segmentBlock (s : State) (f : FreezeDesc) (k : Nat) : TxBlock :=
  ⟨.eodSeg, k, match (s.batch f)[k - 1]? with
    | some x => segmentHeader f k x ++ x.bytes
    | none => []⟩

end Sys2Proof.Machine
end

