-- ==== Sys2Proof/Machine/Send.lean ====
section
/-! DEFINITION. The opening of the day (R170) and the end-of-day sender: send attempts (R180, R188), offers (R181), going back (R182),
acknowledgements (R183 to R185), the acknowledgement timer (R186) and the line (R187, R191). -/

namespace Sys2Proof.Machine

/-! ### The sender -/

/-- R180: the sender cleared. -/
def Day.clearSender (d : Day) : Day := { d with base := 1, pointer := 1, highest := 0, retries := 0, timer := none }

/-- N, from the freeze description; 0 before the freeze. -/
def Day.segments (d : Day) : Nat := match d.freeze with | some f => f.segments | none => 0

/-- A counter of the sender. -/
def Day.count (f : DayCounters → DayCounters) (d : Day) : Day := { d with counters := f d.counters }

/-- R180: a CLOSED day passes to SENDING when the link is UP. -/
def State.startSending (s : State) : State :=
  if s.day.state = .closed && s.uplink.link = .up then (s.onDay Day.clearSender).setDay .sending else s

/-- R181: whether the sender may offer segment pointer. -/
def State.mayOffer (s : State) : Bool :=
  s.day.state = .sending && s.uplink.link = .up && s.day.pointer < s.day.base + Config.sendWindow
  && s.day.pointer ≤ s.day.segments && s.uplink.dataRoom

/-- R181: one segment offered, when the condition holds; false when none was. -/
def State.offerOne (s : State) : State × Bool :=
  match s.mayOffer, s.day.freeze with
  | true, some f =>
    ((s.onUplink (Uplink.pushData (s.segmentBlock f s.day.pointer))).onDay fun d =>
      { d with pointer := d.pointer + 1 }.count fun c => { c with offered := bump c.offered }, true)
  | _, _ => (s, false)

/-- R181: segments offered until the condition fails. -/
def State.offerSegments : Nat → State → State
  | 0, s => s
  | n + 1, s =>
    let r := s.offerOne
    if r.2 then State.offerSegments n r.1 else r.1

/-- R181: an EOD SEG block left the transmitter. -/
def Day.segmentLeft (k : Nat) (d : Day) : Day :=
  { d with
    highest := max d.highest k
    timer := if d.timer.isNone && d.state = .sending then some Config.ackMs else d.timer }

/-- R182: the sender goes back to segment j. What it then offers is offered at EOD_SEGMENT_OFFER. -/
def State.goBack (j : Nat) (s : State) : State :=
  (s.onDay fun d => { d with pointer := j }).onUplink (Uplink.withdrawSegments fun k => j ≤ k)

/-- R184: whether an acknowledgement is well formed: its verdict byte and its segment number. -/
def ackVerdict (segments k : Nat) (body : List Byte) : Option Nat :=
  match body with
  | [v] => if (v = 0 && k < segments) || ((v = 1 || v = 2) && k = segments) then some v.toNat else none
  | _ => none

/-- R184, R185: an acknowledgement discarded and counted. -/
def State.ignoreAck (s : State) : State := s.onDay (Day.count fun c => { c with ignored := bump c.ignored })

/-- R184: an EOD ACK of segment k. -/
def State.takeAck (k : Nat) (body : List Byte) (s : State) : State :=
  match ackVerdict s.day.segments k body with
  | some v =>
    if s.day.state = .sending && s.day.base ≤ k && k ≤ s.day.highest then
      let s := s.onDay fun d => { d with base := k + 1, pointer := max d.pointer (k + 1) }
      let s := s.onUplink (Uplink.withdrawSegments fun j => j ≤ k)
      if v = 0 then
        s.onDay fun d => { d with timer := if d.base < d.pointer then some Config.ackMs else none }
      else
        (s.onDay fun d => { d with timer := none }).setDay (if v = 1 then .sent else .rejected)
    else s.ignoreAck
  | none => s.ignoreAck

/-- R185: an EOD NAK of segment k. -/
def State.takeNak (k : Nat) (body : List Byte) (s : State) : State :=
  if body = [] && s.day.state = .sending && s.day.base ≤ k && k ≤ s.day.highest then s.goBack k else s.ignoreAck

/-- R186: the acknowledgement timer expired in SENDING. -/
def State.ackTimerOver (s : State) : State :=
  let s := s.onDay fun d =>
    { d with retries := d.retries + 1, timer := none }.count fun c => { c with timeouts := bump c.timeouts }
  if s.day.retries = Config.sendRetries then (s.onUplink (Uplink.withdrawSegments fun _ => true)).setDay .failed
  else s.goBack s.day.base

/-- R187: the link-lost event at the sender. -/
def State.suspend (s : State) : State :=
  if s.day.state = .sending then
    (s.onDay fun d =>
      { d with timer := none, pointer := d.base }.count fun c => { c with losses := bump c.losses }).setDay .suspended
  else s

/-- R187: the link enters UP: a SUSPENDED day returns to SENDING within the same attempt. -/
def State.resumeSending (s : State) : State := if s.day.state = .suspended then s.setDay .sending else s

/-- R191: the Day Close Unit at a warm start. -/
def State.warmDay (s : State) : State :=
  let s := s.onDay fun d => { d with timer := none }
  if s.day.state = .sending then (s.onDay fun d => { d with pointer := d.base }).setDay .suspended else s

/-- R188: RESEND EOD taken. -/
def State.resend (s : State) : State :=
  (s.onDay fun d => d.clearSender.count fun c => { c with resends := bump c.resends }).setDay
    (if s.uplink.link = .up then .sending else .closed)

/-! ### The opening of the day (R170) -/

/-- R170: the blocks prepared for the new day, and the day opened. -/
def State.openTheDay (date : Text) (s : State) : State :=
  let s := s.onDrawers (Vector.map Drawer.openDay)
  let s := s.openJournal date
  let s := s.onRouter Router.openDay
  let s := s.onPassbook Passbook.openDay
  let s := s.onDay fun d => { d.clearSender with freeze := none, closePending := [], date := some date }
  s.setDay .opened

end Sys2Proof.Machine
end

