-- ==== Sys2Proof/Machine/Link.lean ====
section
/-! DEFINITION. The Uplink Controller: reception (R23, R24), the classifier (R25, R26), link states (R27 to R31), the hold state (R32) and
the transmitter (R34). -/

namespace Sys2Proof.Machine

/-! ### Reception (R21 to R24) -/

/-- The opening sequence (spec 11). -/
def opening : List Byte := [0x2D, 0xD4]

/-- The fill byte (spec 11). -/
def fillByte : Byte := 0xAA

/-- What becomes of a block that arrives (R23). -/
inductive Reception where
  | incomplete
  | misaddressed
  | stored (b : RxBlock)
  deriving DecidableEq, Repr

/-- R23: the classes whose body must be empty. -/
def mustBeEmpty (c : Option BlockClass) : Bool := c = some .sync || c = some .hold || c = some .release

/-- R23: a block judged from its bytes, class to check sequence; `branch` is the branch number of the branch parameters. -/
def receive (branch : Nat) (bytes : List Byte) (time : Nat) : Reception :=
  if bytes.length < 7 then .incomplete
  else
    let cls := nameIn blockClassNames (ofBe (bytes.take 1))
    let tag := ofBe ((bytes.drop 3).take 2)
    let length := ofBe ((bytes.drop 5).take 2)
    let stored (status : RxStatus) (body : List Byte) : Reception := .stored { status, cls, tag, body, time, lost := 0 }
    if Config.maxBody < length then stored .lengthError []
    else if bytes.length < length + 9 then .incomplete
    else
      let body := (bytes.drop 7).take length
      if (bytes.drop (7 + length)).take 2 != crcBytes (bytes.take (7 + length)) then stored .checkError body
      else if mustBeEmpty cls && length != 0 then stored .lengthError body
      else if ofBe ((bytes.drop 1).take 2) != branch then .misaddressed
      else stored .good body

def Uplink.count (f : UplinkCounters → UplinkCounters) (u : Uplink) : Uplink := { u with counters := f u.counters }

/-- R24: the newest stored block takes or raises the overrun after mark. -/
def markNewest (l : List RxBlock) : List RxBlock :=
  match l.getLast? with
  | some b => l.dropLast ++ [{ b with lost := bump255 b.lost }]
  | none => l

/-- R24: a block to be stored. With the queue full it is lost and the newest block marked, also a LENGTH ERROR cut short (assumption 53). -/
def Uplink.store (b : RxBlock) (u : Uplink) : Uplink :=
  if u.rx.length < Config.receiveCapacity then { u with rx := u.rx ++ [b] } else { u with rx := markNewest u.rx }

/-- R30: the silence timer restarted, when it runs. -/
def Uplink.restartSilence (u : Uplink) : Uplink :=
  { u with silenceTimer := u.silenceTimer.map fun _ => Config.silenceMs }

/-- R23: a block became complete. In DOWN the receiver ignores the line. -/
def State.takeBlock (bytes : List Byte) (time : Nat) (s : State) : State :=
  if s.uplink.link = .down then s
  else
    match receive s.params.branch bytes time with
    | .incomplete => s
    | .misaddressed => s.onUplink (Uplink.count fun c => { c with misaddressed := bump c.misaddressed })
    | .stored b => s.onUplink fun u => if b.status = .good then (u.store b).restartSilence else u.store b

/-! ### Link states (R27 to R31) -/

/-- R28: an attempt begins. -/
def Uplink.startAttempt (u : Uplink) : Uplink := { u with attemptTimer := some Config.attemptMs, firstSync := none }

/-- R28, R31: the SYNC offers every 250 ms begin. -/
def Uplink.startSyncOffers (u : Uplink) : Uplink := { u.offerSync with syncTimer := some Config.syncOfferMs }

/-- R28: SYNC entered from DOWN. -/
def State.enterSync (s : State) : State :=
  (s.onUplink fun u =>
    { u with link := .sync, rate := s.params.uplinkRate, syncFailures := 0 }.startAttempt.startSyncOffers).refreshAllStatus

/-- R27, R28, R37: with carrier present the link enters SYNC; otherwise it waits in DOWN. -/
def State.seekCarrier (s : State) : State := if s.carrier && s.uplink.link = .down then s.enterSync else s

/-- R30: UP entered from SYNC or RECOVERY. -/
def State.enterUp (s : State) : State :=
  let s := (s.onUplink fun u =>
    { u with
      link := .up, syncFailures := 0, burstBlocks := 0, burstBad := 0, firstSync := none
      silenceTimer := some Config.silenceMs, keepAliveTimer := some Config.keepAliveMs
      attemptTimer := none, syncTimer := none, recoveryTimer := none }).refreshAllStatus
  let s := s.onMgmt fun m => { m with restart := m.restart.map fun r => { r with upSeen := true } }
  s.resumeSending

/-- R31: RECOVERY entered from UP. -/
def State.enterRecovery (s : State) : State :=
  (s.onUplink fun u =>
    { u with
      link := .recovery, rx := [], silenceTimer := none, keepAliveTimer := none
      recoveryTimer := some Config.recoveryMs, recoverySyncs := 0 }.startSyncOffers).refreshAllStatus

/-- Whether a block's owner uses the data queue (R33). -/
def BlockClass.isData (c : BlockClass) : Bool := c = .request || c = .eodSeg

/-- R27: the Uplink Controller's own actions at an entry to DOWN; `lost` says that it is a link-lost event, at which the data queue is
emptied and a data block being sent is broken off. -/
def Uplink.goDown (lost : Bool) (u : Uplink) : Uplink :=
  let u := match u.sending with
    | some x => if lost || !x.block.cls.isData then u.breakOff else u
    | none => u
  { u with
    link := .down, rx := [], control := [], data := if lost then [] else u.data, held := false, holdTimer := none
    attemptTimer := none, syncTimer := none, silenceTimer := none, keepAliveTimer := none, recoveryTimer := none
    firstSync := none }

/-- R27, R56, R187: DOWN entered, with the link-lost event from UP or RECOVERY; with carrier present the link enters SYNC at once. -/
def State.enterDown (s : State) : State :=
  let lost : Bool := s.uplink.link = .up || s.uplink.link = .recovery
  let s := (s.onUplink (Uplink.goDown lost)).refreshAllStatus
  let s := if lost then (s.loseEntries false).1.suspend else s
  s.seekCarrier

/-! ### The classifier (R25, R26, R30) -/

/-- The head of the receive queue leaves it. -/
def Uplink.dropHead (u : Uplink) : Uplink := { u with rx := u.rx.tail }

/-- R24: the lost count of a block that has been handled is added to the overrun-lost counter. -/
def Uplink.reportLost (n : Nat) (u : Uplink) : Uplink := u.count fun c => { c with overrunLost := bumpBy n c.overrunLost }

/-- R30: a block that is not bad counted in the burst counts. -/
def Uplink.burstGood (u : Uplink) : Uplink :=
  if u.burstBlocks + 1 = 256 then { u with burstBlocks := 0, burstBad := 0 } else { u with burstBlocks := u.burstBlocks + 1 }

/-- R30: a bad block counted in the burst counts. As the 256th block it leaves the block count at 255 (assumption 15). -/
def Uplink.burstMore (u : Uplink) : Uplink := { u with burstBlocks := bump255 u.burstBlocks, burstBad := u.burstBad + 1 }

/-- R25: a bad block in UP; the sixteenth is the error burst (R30). It leaves both burst counts as they stood until the next entry to UP
(assumption 15). -/
def State.badInUp (s : State) : State :=
  if s.uplink.burstBad + 1 = 16 then
    (s.onUplink (Uplink.count fun c => { c with bursts := bump c.bursts })).enterRecovery
  else s.onUplink Uplink.burstMore

/-- R25, R26: the counter of an error status. -/
def Uplink.countStatus (st : RxStatus) (u : Uplink) : Uplink :=
  u.count fun c =>
    match st with
    | .checkError => { c with checkErrors := bump c.checkErrors }
    | .lengthError => { c with lengthErrors := bump c.lengthErrors }
    | .good => { c with goodBlocks := bump c.goodBlocks }

/-- R25: the classes the classifier acts on in UP. -/
def BlockClass.isInbound : BlockClass → Bool
  | .reply | .mgmtCmd | .eodAck | .eodNak | .hold | .release | .bulletin | .sync => true
  | .request | .mgmtResp | .eodSeg => false

/-- R25: whether a stored block is GOOD and of a class acted on in UP. -/
def RxBlock.acceptable (b : RxBlock) : Bool :=
  b.status = .good && (match b.cls with | some c => c.isInbound | none => false)

/-- R24, R25, R26: the classifier takes a block that is discarded. -/
def State.classifyBad (s : State) : State :=
  match s.uplink.rx with
  | [] => s
  | b :: _ =>
    match s.uplink.link with
    | .down => s
    | .up =>
      if b.acceptable then s
      else
        let s := s.onUplink fun u => u.dropHead.countStatus b.status
        let s := if b.status = .good then
            s.onUplink (Uplink.count fun c => { c with unknownClass := bump c.unknownClass })
          else s
        s.badInUp.onUplink (Uplink.reportLost b.lost)
    | .sync | .recovery =>
      if b.status = .good then
        if b.cls = some .sync then s
        else s.onUplink fun u => (u.dropHead.count fun c => { c with outOfState := bump c.outOfState }).reportLost b.lost
      else s.onUplink fun u => (u.dropHead.countStatus b.status).reportLost b.lost

/-- R24, R25, R30: the uplink as the handling of a GOOD block in UP finds it: the head is gone, the good counter has risen, and the block is
counted in the burst counts. -/
def Uplink.taken (u : Uplink) : Uplink := (u.dropHead.countStatus .good).burstGood

/-- R24, R25: in UP, a GOOD block of a class at the head of the receive queue taken and acted on; its lost count is added once it has been
handled. -/
def State.classified (cls : BlockClass) (act : RxBlock → State → State) (s : State) : State :=
  match s.uplink.link, s.uplink.rx with
  | .up, b :: _ =>
    if b.status = .good ∧ b.cls = some cls then
      (act b (s.onUplink Uplink.taken)).onUplink (Uplink.reportLost b.lost)
    else s
  | _, _ => s

/-- R28: a good SYNC in SYNC, by its time. -/
def State.syncInSync (time : Nat) (s : State) : State :=
  match s.uplink.firstSync with
  | some stamp => if time ≤ stamp + Config.syncPairMs then s.enterUp else s.onUplink fun u => { u with firstSync := some time }
  | none => s.onUplink fun u => { u with firstSync := some time }

/-- R31: a good SYNC in RECOVERY. -/
def State.syncInRecovery (s : State) : State :=
  if s.uplink.recoverySyncs + 1 = 2 then s.enterUp
  else s.onUplink fun u => { u with recoverySyncs := u.recoverySyncs + 1 }

/-- R25, R28, R31: the classifier takes a good SYNC. -/
def State.takeSync (s : State) : State :=
  match s.uplink.rx with
  | [] => s
  | b :: _ =>
    if b.status = .good ∧ b.cls = some .sync then
      let taken := s.onUplink fun u => u.dropHead.countStatus .good
      let handled := match s.uplink.link with
        | .down => s
        | .up => s.onUplink Uplink.taken
        | .sync => taken.syncInSync b.time
        | .recovery => taken.syncInRecovery
      if s.uplink.link = .down then s else handled.onUplink (Uplink.reportLost b.lost)
    else s

/-! ### Timers of the line (R29 to R32) -/

/-- R29: the rate switched between the primary rate and its fallback. -/
def Uplink.switchRate (primary : LineRate) (u : Uplink) : Uplink :=
  match primary.fallback with
  | some low =>
    { u with rate := if u.rate = primary then low else primary, rx := [] }.count fun c =>
      { c with rateSwitches := bump c.rateSwitches }
  | none => u

/-- R29: the attempt has failed. -/
def Uplink.attemptFailed (p : BranchParams) (u : Uplink) : Uplink :=
  let u := { u with syncFailures := bump255 u.syncFailures }
  let u := if p.syncThreshold ≠ 0 ∧ p.syncThreshold ≤ u.syncFailures then
      { u with syncFailures := 0 }.switchRate p.uplinkRate
    else u
  u.startAttempt

/-- R30: the silence timer expired. -/
def State.silenceOver (s : State) : State :=
  (s.onUplink (Uplink.count fun c => { c with silences := bump c.silences })).enterRecovery

/-- R31: the RECOVERY limit expired. -/
def State.recoveryOver (s : State) : State :=
  (s.onUplink (Uplink.count fun c => { c with recoveryFailures := bump c.recoveryFailures })).enterDown

/-- R32: a HOLD taken. -/
def Uplink.hold (u : Uplink) : Uplink := { u with held := true, holdTimer := some Config.holdMs }

/-- R32: the hold state cleared. -/
def Uplink.release (u : Uplink) : Uplink := { u with held := false, holdTimer := none }

/-- R32: the hold timer expired. -/
def Uplink.autoRelease (u : Uplink) : Uplink := u.release.count fun c => { c with autoReleases := bump c.autoReleases }

/-! ### The transmitter (R34) -/

/-- R21: a block's bytes from its class to its body. -/
def blockBytes (branch : Nat) (b : TxBlock) : List Byte :=
  by1 (codeIn blockClassNames b.cls) ++ be 2 branch ++ be 2 b.tag ++ be 2 b.body.length ++ b.body

/-- R21, R22: a block as it is sent. -/
def lineBytes (branch : Nat) (b : TxBlock) : List Byte :=
  opening ++ blockBytes branch b ++ crcBytes (blockBytes branch b)

/-- R34: a block broken off after its first `sent` bytes: fill in place of the rest, and the complement of its check sequence. A break that
falls after the first check byte has gone still leaves both check bytes complemented: R34 does not name it (assumption 14). -/
def brokenBytes (branch : Nat) (b : TxBlock) (sent : Nat) : List Byte :=
  let bytes := opening ++ blockBytes branch b
  bytes.take sent ++ List.replicate (bytes.length - sent) fillByte ++ (crcBytes (blockBytes branch b)).map (~~~ ·)

/-- R34: the block the free transmitter chooses, with the queues it leaves behind. -/
def Uplink.choose (u : Uplink) : Option (TxBlock × Uplink) :=
  match u.link with
  | .up =>
    match u.control, u.held, u.data with
    | b :: rest, _, _ => some (b, { u with control := rest })
    | [], false, b :: rest => some (b, { u with data := rest })
    | [], _, _ => none
  | .sync | .recovery =>
    if u.control.any fun b => b.cls = .sync then
      some (⟨.sync, 0, []⟩, { u with control := u.control.filter fun b => b.cls ≠ .sync })
    else none
  | .down => none

/-- R34: the free transmitter chooses the next block and begins it, with the branch number (R21) and the rate (R29) as they stand. -/
def Uplink.startTransmit (branch : Nat) (u : Uplink) : Uplink :=
  match u.sending, u.choose with
  | none, some (b, u') => { u' with sending := some ⟨b, branch, u.rate, false⟩, lineOut := lineBytes branch b }
  | _, _ => u

/-- R34: the last byte of the block being sent has gone out. A block not broken off has left the transmitter, and its owner is
told. -/
def State.blockLeft (s : State) : State :=
  match s.uplink.sending with
  | none => s
  | some x =>
    if x.broken then
      let s := s.onUplink fun u =>
        { u with sending := none, lineOut := brokenBytes x.branch x.block (Config.breakOffPoint s.free) }
      { s with free := s.free + 1 }
    else
      let s := s.onUplink fun u => { u with sending := none }
      match x.block.cls with
      | .request => s.onRouter (Router.markSent x.block.tag)
      | .eodSeg => s.onDay (Day.segmentLeft x.block.tag)
      | _ => s

end Sys2Proof.Machine
end

