-- ==== Sys2Proof/Machine/Settings.lean ====
section
/-! DEFINITION. Management responses (R192, R194) and the save of the settings image (R200, R201). -/

namespace Sys2Proof.Machine

/-! ### Responses (R192) -/

/-- The sixteen commands, in the order of their codes (spec 11). -/
inductive Cmd where
  | loadTable | readTable | readStatus | setFlags | clearFlags | openDay | closeDay | resendEod | setTime | saveSettings
  | restart | loopTestStart | loopTestStop | loadPending | clearPending | postCorrection
  deriving DecidableEq, Repr

def cmdNames : List Cmd := [.loadTable, .readTable, .readStatus, .setFlags, .clearFlags, .openDay, .closeDay, .resendEod,
  .setTime, .saveSettings, .restart, .loopTestStart, .loopTestStop, .loadPending, .clearPending, .postCorrection]

/-- A command's code. -/
def Cmd.code (c : Cmd) : Nat := codeIn cmdNames c

/-- Spec 11: the state byte, CONFIGURED and the unsaved mark as they stand. -/
def Mgmt.stateByte (m : Mgmt) : List Byte := by1 ((if m.configured then 1 else 0) + (if m.unsaved then 2 else 0))

/-- R192: the response to a taken command, built and offered; the command is no longer in flight (R194). -/
def State.answerDone (code tag : Nat) (ret : List Byte) (s : State) : State :=
  (s.onUplink (Uplink.offerResponse tag (by1 code ++ [0, 0] ++ s.mgmt.stateByte ++ ret))).onMgmt fun m =>
    { m with inFlight := none }

/-- R192, R193: a refusal, counted under its reason, built and offered. -/
def State.answerRefused (code tag : Nat) (r : MgmtReason) (s : State) : State :=
  let i := codeIn mgmtReasonNames r
  let s := s.onMgmt fun m => { m with refusals := put m.refusals (i - 1) (bump (look m.refusals (i - 1))) }
  s.onUplink (Uplink.offerResponse tag (by1 code ++ [1] ++ by1 i ++ s.mgmt.stateByte))

/-! ### The save (R201) -/

/-- R201: the writes of steps 1 and 2: the mark cleared, the length, each table, the check. -/
def imageWrites (t : Tables) : List MemWrite :=
  let tables := (List.range' 1 10).foldl (fun (acc : List MemWrite × Nat) n =>
    let bytes := t.tableBytes n
    (acc.1 ++ [⟨acc.2, bytes⟩], acc.2 + bytes.length)) ([], 6)
  [⟨0, clearedMark⟩, ⟨2, be 2 t.imageLength⟩] ++ tables.1 ++ [⟨4, imageCheck t.imageLength t.bytes⟩]

/-- The configured state set. -/
def State.setConfigured (b : Bool) (s : State) : State := s.onMgmt fun m => { m with configured := b }

/-- R201: a save begun: the image formed, the two timers started, the mark cleared (assumption 13). -/
def State.startSave (s : State) : State :=
  s.onMgmt fun m =>
    { m with
      configured := false
      memory := Memory.writeBytes m.memory 0 clearedMark
      save := some { image := s.tables.image, step := .writing, writes := imageWrites s.tables
                     writeTimer := some Config.writeMs, saveTimer := some Config.saveMs } }

/-- Spec 11: the return of SAVE SETTINGS. -/
def saveReturn (o : SaveOutcome) (length : Nat) : List Byte := by1 o.code ++ be 3 length

/-- R201: the save ends; its command is answered DONE with the outcome and the image length. -/
def State.endSave (o : SaveOutcome) (length : Nat) (s : State) : State :=
  let s := s.onMgmt fun m => { m with save := none, lastSave := o }
  match s.mgmt.inFlight with
  | some f => s.answerDone f.command f.tag (saveReturn o length)
  | none => s

/-- R201: WRITTEN. -/
def State.saveWritten (x : Save) (s : State) : State :=
  (s.onMgmt fun m => { m with configured := true, unsaved := false, lastLength := x.image.length }).endSave .written x.image.length

/-- R201: the mark written cleared once more (assumption 13). -/
def State.clearMark (s : State) : State :=
  s.onMgmt fun m => { m with memory := Memory.writeBytes m.memory 0 clearedMark }

/-- R201: NOT WRITTEN. -/
def State.saveFailed (x : Save) (s : State) : State := s.clearMark.endSave .notWritten x.image.length

/-- R201, R203: a save broken off without a response. -/
def State.abandonSave (s : State) : State :=
  match s.mgmt.save with
  | some _ => s.clearMark.onMgmt fun m => { m with save := none, lastSave := .notWritten, configured := false }
  | none => s

/-- R201: the memory reports the write in progress complete. -/
def State.writeComplete (s : State) : State :=
  match s.mgmt.save with
  | none => s
  | some x =>
    match x.writes with
    | [] => s
    | w :: rest =>
      let s := s.onMgmt fun m => { m with memory := Memory.writeBytes m.memory w.addr w.bytes }
      match rest, x.step with
      | [], .marking => s.saveWritten x
      | [], _ => s.onMgmt fun m => { m with save := some { x with writes := [], step := .readingBack, writeTimer := none } }
      | _, _ => s.onMgmt fun m => { m with save := some { x with writes := rest, writeTimer := some Config.writeMs } }

/-- What a read of n bytes from address 0 gives (assumption 12). -/
def State.memoryAnswer (n : Nat) (a : MemoryAnswer) (s : State) : List Byte :=
  match a with
  | .asHeld => Memory.readBytes s.mgmt.memory 0 n
  | .other bytes => bytes

/-- R201, step 3: whether the check computed over the image read back is the one that was written. The check field read back is itself
not compared (DEDUCED, assumption 52). -/
def readBackAgrees (image back : List Byte) : Bool :=
  back.length = image.length && crcBytes ((back.drop 2).take 2 ++ back.drop 6) = (image.drop 4).take 2

/-- R201, step 3: the image read back. -/
def State.readBack (a : MemoryAnswer) (s : State) : State :=
  match s.mgmt.save with
  | none => s
  | some x =>
    match x.step with
    | .readingBack =>
      if readBackAgrees x.image (s.memoryAnswer x.image.length a) then
        s.onMgmt fun m =>
          { m with save := some { x with step := .marking, writes := [⟨0, validMark⟩], writeTimer := some Config.writeMs } }
      else s.saveFailed x
    | _ => s

/-- R201: a write was not reported complete in time. -/
def State.writeTimeout (s : State) : State :=
  match s.mgmt.save with
  | some x => if running x.writeTimer then s.saveFailed x else s
  | none => s

/-- R201: the save timer expired. -/
def State.saveTimeout (s : State) : State :=
  match s.mgmt.save with
  | some x => if running x.saveTimer then s.saveFailed x else s
  | none => s

end Sys2Proof.Machine
end

