-- ==== Sys2Proof/Machine/Starts.lean ====
section
/-! DEFINITION. Cold starts (R202) and the warm start with its phases (R203, R204). -/

namespace Sys2Proof.Machine

/-! ### Cold start (R202) -/

/-- R202: every piece of working state cleared and the blocks' cold starts still to come (assumption 11); the settings memory, CARRIER, the
waiting commands and the count of free values are kept. No PORT RESET pulse runs before the cold start (R133). -/
def State.cleared (cause : StartCause) (phase : Phase) (s : State) : State :=
  { State.cold s.pending s.carrier s.free Tables.defaults (Mgmt.cold cause false s.mgmt.memory) phase with
    ports := Vector.replicate 8 { Port.cold with pulseTimer := none } }

/-- R202: the part waiting for the settings image. -/
def State.beginCold (cause : StartCause) (s : State) : State := s.cleared cause .readingImage

/-- R202: RESET asserted: nothing runs and every line is idle. -/
def State.holdReset (s : State) : State := s.cleared .resetPin .resetHeld

/-- R202: every block has made its cold start: start-up has finished. The uplink looks for carrier (R37), and the ports whose field is set
are enabled (R133). -/
def State.startUp (s : State) : State :=
  (portNumbers.filter fun p => bitSet s.params.enables (p - 1)).foldl (fun s p => s.enablePort p) s.seekCarrier

/-- R202: the cold start completed with the tables of a sound image, or with every default. -/
def State.finishCold (t : Option Tables) (s : State) : State :=
  (State.cold s.pending s.carrier s.free (t.getD Tables.defaults)
    (Mgmt.cold s.mgmt.cause t.isSome s.mgmt.memory) .running).startUp

/-! ### Warm start (R203) -/

/-- R38: phase 1, the Uplink Controller. -/
def Uplink.warm (u : Uplink) : Uplink :=
  { u.goDown true with syncFailures := 0, burstBlocks := 0, burstBad := 0 }

/-- R20: a station at a warm start. A sign-on is kept, one kept by an earlier warm start too (assumption 33). -/
def StationRec.warm (r : StationRec) : StationRec :=
  { state := .absent, misses := 0, frames := []
    teller := match r.state with | .signed | .absent => r.teller | _ => none }

/-- R20: phase 2, the Station Loop Controller. -/
def Loop.warm (l : Loop) : Loop :=
  { l with
    stations := l.stations.map StationRec.warm, goodCount := 0, failCount := 0, cycle := 0, nextAddr := 1
    visit := none, test := none }

/-- R115: phase 3, a station's screen. -/
def StationScreen.warm (bulletin : Option Text) (sc : StationScreen) : StationScreen :=
  { { sc with alerts := [] }.blankWindow.refreshAlert bulletin with pendingReady := true }

/-- R115: phase 3, the Screen Composer. -/
def State.warmScreens (s : State) : State :=
  stationNumbers.foldl (fun s a => s.onScreen a (StationScreen.warm s.composer.bulletinText)) s

/-- R167: phase 5, the RESTART entry, and what became of it. -/
def State.restartEntry (linkLost : Nat) (s : State) : State × RestartEntry :=
  if s.day.state.frozen then (s, .notOffered)
  else
    let r := s.journalOffer { JEntry.ofKind .restart with detail := some (.restart s.day.state linkLost) }
    (r.1, match r.2 with | some n => .written n | none => .omitted)

/-- R203: the warm start in its phases. Returns the number of LINK LOST completions and what became of the RESTART entry. -/
def State.warmStart (s : State) : State × Nat × RestartEntry :=
  let s := (s.onUplink Uplink.warm).refreshAllStatus
  let s := (s.onLoop Loop.warm).refreshAllStatus
  let s := portNumbers.foldl (fun s p => s.warmPort p) s
  let s := s.onPassbook (Passbook.warm s.day.state.frozen)
  let s := s.warmScreens
  let l := s.loseEntries true
  let r := l.1.restartEntry l.2.2
  let s := r.1.warmDay
  let s := (s.drawersFree l.2.1).judgeFreeze
  (s.seekCarrier, l.2.2, r.2)

/-- R203: RESTART taken with a command tag: the command in flight is abandoned, the warm start is made, and the RESTART is in flight. -/
def State.restart (tag : Nat) (s : State) : State :=
  let r := s.abandonSave.warmStart
  r.1.onMgmt fun m =>
    { m with
      inFlight := some ⟨Cmd.restart.code, tag⟩
      warmStarts := bump m.warmStarts
      restart := some { linkLost := r.2.1, entry := r.2.2, day := r.1.day.state, upSeen := false } }

/-- Spec 11: the return of RESTART. -/
def restartReturn (r : RestartInfo) : List Byte :=
  by1 r.linkLost
  ++ (match r.entry with
      | .written n => by1 1 ++ be 2 n
      | .notOffered => by1 2 ++ be 2 0
      | .omitted => by1 3 ++ be 2 0)
  ++ by1 (codeIn dayNames r.day)

/-- R204: the RESTART response built and offered, once the link has entered UP. -/
def State.restartResponse (s : State) : State :=
  match s.mgmt.restart, s.mgmt.inFlight with
  | some r, some f =>
    if r.upSeen then (s.onMgmt fun m => { m with restart := none }).answerDone f.command f.tag (restartReturn r) else s
  | _, _ => s

end Sys2Proof.Machine
end

