-- ==== Sys2Proof/Machine/Status.lean ====
section
/-! DEFINITION. READ STATUS: the returns of the twelve areas (R198), each item in the order its owner's rule lists it, encoded as R206
states (assumption 17). -/

namespace Sys2Proof.Machine

/-- R205: area MANAGEMENT. -/
def Mgmt.report (m : Mgmt) : List Byte :=
  by1 (if m.configured then 1 else 2) ++ flag m.unsaved
  ++ encOpt (fun f => by1 f.command ++ be 2 f.tag) m.inFlight
  ++ be 3 m.clock ++ flag m.clockSet
  ++ by1 m.lastSave.code ++ be 2 m.lastLength
  ++ by1 (codeIn causeNames m.cause) ++ be 2 m.warmStarts
  ++ be 2 m.taken ++ encAll (be 2) m.refusals.toList

/-- R5, R13, R14: area STATIONS. -/
def State.reportStations (s : State) : List Byte :=
  encAll (fun r => by1 (codeIn stationStateNames r.state) ++ encOpt encText r.teller) s.loop.stations.toList
  ++ be 3 s.params.loopRate.bps ++ be 3 s.loop.rate.bps ++ flag s.params.fallbackDisable ++ by1 s.loop.stepDowns
  ++ be 2 s.loop.goodCount ++ by1 s.loop.failCount

def UplinkCounters.report (c : UplinkCounters) : List Byte :=
  encAll (be 2) [c.goodBlocks, c.checkErrors, c.lengthErrors, c.misaddressed, c.unknownClass, c.outOfState, c.overrunLost,
    c.bursts, c.silences, c.recoveryFailures, c.rateSwitches, c.autoReleases]

/-- R36, R32: area UPLINK. -/
def State.reportUplink (s : State) : List Byte :=
  let u := s.uplink
  by1 (codeIn linkNames u.link) ++ be 3 u.rate.bps ++ be 3 s.params.uplinkRate.bps ++ by1 s.params.syncThreshold
  ++ by1 u.syncFailures ++ by1 u.rx.length ++ by1 u.control.length ++ by1 u.data.length
  ++ flag u.held ++ encTimer u.holdTimer ++ by1 u.burstBlocks ++ by1 u.burstBad ++ u.counters.report

def RouterCounters.report (c : RouterCounters) : List Byte :=
  be 2 c.malformed ++ encAll (be 2) c.refusals.toList
  ++ encAll (be 2) [c.timedOut, c.badReplies, c.lateReplies, c.droppedLines, c.standIns, c.forwarded, c.forwardDeclined]

/-- R63: area ROUTER. -/
def Router.report (r : Router) : List Byte :=
  let n (st : EntryState) (forward : Bool) : List Byte :=
    by1 (r.table.filter fun e => e.state = st && e.isForward = forward).length
  n .queued false ++ n .queued true ++ n .sent false ++ n .sent true
  ++ encAll by1 r.sequences.toList ++ by1 r.forwarderSeq
  ++ encAll (encOpt fun u => be 2 (tagField u.tag)) r.unanswered.toList
  ++ r.counters.report

/-- R91: area DRAWER. -/
def Drawer.report (d : Drawer) : List Byte :=
  by1 (drawerStateCode d.isOpen) ++ be 7 d.position ++ by1 (codeIn limitNames d.limit) ++ flag d.overflow ++ flag d.unbalanced
  ++ be 7 d.baseIn ++ be 7 d.baseOut ++ be 7 d.standIn

/-- R91, R198: area DRAWER CURRENCY; an empty currency entry is marked empty. -/
def State.reportCurrency (s : State) (d c : Nat) : List Byte :=
  match s.tables.currency c with
  | none => [1]
  | some _ =>
    let h := look (s.drawer d).currencies c
    [0] ++ encAll (fun p => be 3 p.onHand ++ be 3 p.reserved) h.pieces
    ++ be 7 (partTotal .note (s.tables.denom c) h.pieces) ++ be 7 (partTotal .coin (s.tables.denom c) h.pieces)
    ++ be 7 h.dayIn ++ be 7 h.dayOut ++ beInt 7 h.rounding ++ encOpt encBalance h.balance

/-- R113: the formats whose overlap mark is set. -/
def Tables.overlapped (t : Tables) : List Nat :=
  (List.range' 1 96).filter fun n => match t.format n with | some f => f.overlap | none => false

/-- R113, R198: area SCREEN. -/
def State.reportScreen (s : State) (a : Nat) : List Byte :=
  let sc := s.screen a
  encOpt by1 sc.format ++ by1 sc.origin ++ flag sc.pendingReady ++ by1 sc.alertsLost
  ++ encList (fun x => by1 (codeIn alertNames x.alert) ++ be 2 x.param) sc.alerts
  ++ by1 sc.dirtyCount ++ flag sc.pendingReady
  ++ be 2 s.composer.bulletinNumber ++ encOpt encText s.composer.bulletinText
  ++ encList by1 s.tables.overlapped
  ++ be 2 s.composer.unknownFormat ++ be 2 s.composer.badBulletin

/-- R113, R198: area SCREEN FIELDS. -/
def StationScreen.reportFields (sc : StationScreen) : List Byte := encList (fun f => by1 f.1 ++ encText f.2) sc.fields

/-- R124: a status record, laid out as its order returns it. -/
def StatusRec.encode (r : StatusRec) : List Byte :=
  by1 ((if r.book then 1 else 0) + (if r.cover then 2 else 0) + (if r.jammed then 4 else 0))

/-- R123: a sense record. -/
def Sense.encode (r : Sense) : List Byte := by1 (codeIn senseNames r.sense) ++ by1 r.line

def PortCounters.report (c : PortCounters) : List Byte :=
  encAll (be 2) [c.dialogues, c.noAnswers, c.aborts, c.busies, c.checks, c.resets, c.refused, c.books]

/-- R154: a job record. -/
def Job.report (j : Job) : List Byte :=
  by1 (codeIn jobNames j.state) ++ encOpt id (j.stripe.map Stripe.account) ++ encOpt by1 (j.stripe.map Stripe.bookType)
  ++ by1 j.page ++ by1 j.u ++ encOpt id j.inPrint ++ be 2 j.printed

/-- R132, R154, R198: area PORT. -/
def State.reportPort (s : State) (p : Nat) : List Byte :=
  let r := s.port p
  by1 (codeIn portStateNames r.state) ++ by1 (codeIn dialogueNames r.dialogue) ++ by1 r.attempts ++ by1 r.senseAttempts
  ++ encOpt by1 r.loaded ++ by1 (if r.bookSeen then 2 else 1) ++ by1 (codeIn attentionNames r.attention)
  ++ flag (bitSet s.params.enables (p - 1))
  ++ encOpt StatusRec.encode r.lastStatus ++ encOpt Sense.encode r.lastSense ++ r.counters.report
  ++ encOpt Job.report (s.job p)
  ++ encOpt (fun x => by1 (if x.printed then 1 else 2)) (look s.passbook.settlements (p - 1))

/-- R154: area PASSBOOK. -/
def Passbook.report (b : Passbook) : List Byte :=
  let c := b.counters
  be 2 b.lineCount ++ be 2 b.accountCount
  ++ encAll (be 2) [c.stored, c.duplicates, c.notRecorded, c.summaries, c.fullStore, c.jobs, c.stripeBad, c.linesPrinted,
    c.failedJobs]

/-- R165: area JOURNAL. The newest entry is laid out as it is exported (assumption 17). -/
def State.reportJournal (s : State) : List Byte :=
  let n (f : Forward) : List Byte := be 2 (s.journal.entries.filter fun e => e.forward = f).length
  be 2 s.journal.entries.length ++ be 2 (roomInUse s.journal s.router) ++ flag s.journal.warning ++ be 2 s.journal.omitted
  ++ n .unforwarded ++ n .forwarded ++ n .declined
  ++ encOpt encEntryExport s.journal.entries.getLast?

/-- R189: the freeze description. Its section boundaries leave HEADER's out and give 0000h for an empty section, the layout that spec 11
has for the HEADER segment (assumption 17). -/
def FreezeDesc.report (f : FreezeDesc) : List Byte :=
  be 2 f.branch ++ f.date ++ be 3 f.time ++ by1 f.drawers.length ++ be 2 f.entries ++ be 2 f.lines ++ be 2 f.accounts
  ++ be 2 f.firstDrawer ++ be 2 f.firstJournal ++ be 2 f.firstPending ++ be 2 f.trailer ++ be 2 f.segments

/-- R189: area DAY. -/
def Day.report (d : Day) : List Byte :=
  by1 (codeIn dayNames d.state) ++ encOpt id d.date ++ encList by1 d.closePending ++ encOpt FreezeDesc.report d.freeze
  ++ be 2 d.base ++ be 2 d.pointer ++ be 2 d.highest ++ by1 d.retries ++ encTimer d.timer
  ++ encAll (be 2) [d.counters.offered, d.counters.timeouts, d.counters.ignored, d.counters.losses, d.counters.resends]

/-- The status areas, in the order of their codes (spec 11). -/
inductive Area where
  | management | stations | uplink | router | drawer | drawerCurrency | screen | screenFields | port | passbook | journal | day
  deriving DecidableEq, Repr

def areaNames : List Area := [.management, .stations, .uplink, .router, .drawer, .drawerCurrency, .screen, .screenFields,
  .port, .passbook, .journal, .day]

/-- R198: whether an item is in range for an area; i is its first byte and j its second. -/
def Area.itemInRange (a : Area) (i j : Nat) : Bool :=
  match a with
  | .drawer => isDrawer i
  | .drawerCurrency => isDrawer i && j ≤ 11
  | .screen | .screenFields => isStation i
  | .port => isPort i
  | .management | .stations | .uplink | .router | .passbook | .journal | .day => true

/-- R198, spec 11: whether an item byte the area does not use is not 00h. -/
def Area.itemStray (a : Area) (i j : Nat) : Bool :=
  match a with
  | .drawer | .screen | .screenFields | .port => j != 0
  | .drawerCurrency => false
  | .management | .stations | .uplink | .router | .passbook | .journal | .day => i != 0 || j != 0

/-- R198: the return of an area and item. -/
def State.report (s : State) (a : Area) (i j : Nat) : List Byte :=
  match a with
  | .management => s.mgmt.report
  | .stations => s.reportStations
  | .uplink => s.reportUplink
  | .router => s.router.report
  | .drawer => (s.drawer i).report
  | .drawerCurrency => s.reportCurrency i j
  | .screen => s.reportScreen i
  | .screenFields => (s.screen i).reportFields
  | .port => s.reportPort i
  | .passbook => s.passbook.report
  | .journal => s.reportJournal
  | .day => s.day.report

end Sys2Proof.Machine
end

