-- ==== Sys2Proof/Machine/Loads.lean ====
section
/-! DEFINITION. LOAD TABLE and READ TABLE for tables 1 to 10: the owners' refusals in their order, and the effects of a load (R4, R14, R36,
R39, R66 to R68, R80, R95, R97, R127, R136, R195, R196). -/

namespace Sys2Proof.Machine

/-- What the tests of a command come to: a refusal; an effect made at once with the return of its DONE; or a command that stays in
flight (R194). -/
inductive Plan where
  | refuse (r : MgmtReason)
  | perform (f : State → State × List Byte)
  | start (f : State → State)

/-- R193, tests 4 and 5, then the command's own tests. -/
def guardPlan (suits reservedZero : Bool) (own : Plan) : Plan :=
  if !suits then .refuse .badLength else if !reservedZero then .refuse .reservedNonzero else own

/-- What the content of a load is (R195, R206). -/
inductive Content (α : Type) where
  | lengthBad
  | valueBad
  | empty
  | entry (a : α)

/-- R193, R206: the content of a load read. A content byte other than 00h and 01h is a bad value (assumption 18). -/
def readContent {α : Type} (r : Reader α) (mark : Byte) (rest : List Byte) : Content α :=
  if mark = 1 then (if rest = [] then .empty else .lengthBad)
  else if mark = 0 then
    match r.whole rest with
    | .length => .lengthBad
    | .bad => .valueBad
    | .ok a good _ => if good then .entry a else .valueBad
  else .valueBad

/-- R195: a load judged: BAD INDEX, BAD VALUE, WRONG DAY STATE, IN USE, in the order of the owners' rules, and its effect. `none` stands for
the empty marker. -/
def loadPlan {α : Type} (c : Content α) (reservedZero indexOk : Bool) (valueOk : Option α → Bool) (dayBad inUse : Bool)
    (effect : Option α → State → State) : Plan :=
  let own (x : Option α) : Plan :=
    if !indexOk then .refuse .badIndex
    else if !valueOk x then .refuse .badValue
    else if dayBad then .refuse .wrongDayState
    else if inUse then .refuse .inUse
    else .perform fun s => ((effect x s).onMgmt fun m => { m with unsaved := true }, [])
  match c with
  | .lengthBad => .refuse .badLength
  | .valueBad => guardPlan true reservedZero (if !indexOk then .refuse .badIndex else .refuse .badValue)
  | .empty => guardPlan true reservedZero (own none)
  | .entry a => guardPlan true reservedZero (own (some a))

/-- The value of a load that the empty marker cannot stand for (R195). -/
def needs {α : Type} (ok : α → Bool) : Option α → Bool
  | some a => ok a
  | none => false

/-- The value of a load that the empty marker can stand for (R195). -/
def orEmpty {α : Type} (ok : α → Bool) : Option α → Bool
  | some a => ok a
  | none => true

/-! ### Table 1 (R196) -/

/-- R36: the uplink at a load of the branch parameters. -/
def Uplink.loadParams (p : BranchParams) (u : Uplink) : Uplink :=
  if u.link = .sync then { u with rate := p.uplinkRate, syncFailures := 0, rx := [] }.startAttempt else u

/-- R127: port p at a load of the branch parameters, or at SET and CLEAR FLAGS. -/
def State.enableChanged (p : Nat) (old new : Bool) (s : State) : State :=
  if !old && new then s.enablePort p else if old && !new then s.disablePort p else s

/-- R196: every field replaced, and each owner's effect made. -/
def State.loadParams (p : BranchParams) (s : State) : State :=
  let old := s.params.enables
  let s := s.onTables fun t => { t with params := p }
  let s := s.onLoop fun l => { l with rate := p.loopRate, goodCount := 0, failCount := 0 }
  let s := s.onUplink (Uplink.loadParams p)
  portNumbers.foldl (fun s n => s.enableChanged n (bitSet old (n - 1)) (bitSet p.enables (n - 1))) s

/-! ### Table 2 (R4) -/

def State.loadStation (a : Nat) (e : StationEntry) (s : State) : State :=
  let old := s.tables.station a
  let s := s.onTables fun t => { t with stations := put t.stations (a - 1) e }
  let s := if old.bank = e.bank then s else s.onScreen a StationScreen.markAll
  if old.drawer = e.drawer ∧ old.port = e.port then s else s.refreshStatus a

/-! ### Tables 4 and 5 (R66, R67) -/

/-- R66, R67: whether any drawer holds pieces of a currency, or an outstanding entry has a leg in it. -/
def State.currencyInUse (s : State) (c : Nat) : Bool :=
  s.drawers.toList.any (fun d => d.holds c) || s.router.table.any fun e => e.legs.any fun l => l.currency = c

/-- R66: the IN USE condition of a load of currency c; for entry 0 it looks at every currency. -/
def State.currencyLoadInUse (s : State) (c : Nat) : Bool :=
  if c = 0 then currencyNumbers.any s.currencyInUse || s.router.table.any fun e => e.legs != [] else s.currencyInUse c

/-- R66: a currency entry replaced, its denomination list made empty. -/
def State.loadCurrency (c : Nat) (x : Option Currency) (s : State) : State :=
  (s.onTables fun t => { t with currencies := put t.currencies c x, denoms := put t.denoms c [] }).resetPieces c

/-- R67: a denomination list replaced. -/
def State.loadDenoms (c : Nat) (l : List Denomination) (s : State) : State :=
  (s.onTables fun t => { t with denoms := put t.denoms c l }).resetPieces c

/-- R66: BAD VALUE of a load of currency entry c; an empty load is judged against entry 0 too. -/
def currencyLoadOk (t : Tables) (c : Nat) : Option Currency → Bool
  | some x => currencyOk x && t.currencyFits c x
  | none => c != 0 && (t.currency 0).isSome

/-! ### Tables 9 and 10 (R95, R136) -/

/-- R95: a bank replaced; the screens of the stations that name it are dirty throughout. -/
def State.loadBank (b : Nat) (x : Vector AttrRecord 16) (s : State) : State :=
  let s := s.onTables fun t => { t with banks := put t.banks b x }
  (stationNumbers.filter fun a => (s.tables.station a).bank = b).foldl (fun s a => s.onScreen a StationScreen.markAll) s

/-- R136, R153: whether a job whose stripe has been judged, in PRINTING, TURN WAIT or ENDING, meets a condition. -/
def State.jobHolds (s : State) (f : Stripe → Bool) : Bool :=
  s.passbook.jobs.toList.any fun j =>
    match j with
    | some j => (j.state = .printing || j.state = .turnWait || j.state = .ending)
        && (match j.stripe with | some r => f r | none => false)
    | none => false

/-- R136: a book layout replaced; loaded layouts of its type become none (R125), and its accounts are summarised. -/
def State.loadLayout (k : Nat) (x : Option BookLayout) (s : State) : State :=
  let s := s.onTables fun t => { t with layouts := put t.layouts k x }
  let s := s.onPorts fun v => v.map fun p => if p.loaded = some k then { p with loaded := none } else p
  s.onPassbook (Passbook.summariseType s.tables k)

/-! ### LOAD TABLE (R195) -/

/-- R195: the plan of a LOAD TABLE of a table, entry, content byte and content. No content is of a wrong length for a table outside 1 to 10
(assumption 55). -/
def State.loadTablePlan (s : State) (reservedZero : Bool) (table i : Nat) (mark : Byte) (rest : List Byte) : Plan :=
  let frozen := s.day.state.frozen
  match table with
  | 1 => loadPlan (readContent readParams mark rest) reservedZero (i = 1) (needs paramsOk) false false fun x s =>
      match x with | some p => s.loadParams p | none => s
  | 2 => loadPlan (readContent readStationEntry mark rest) reservedZero (isStation i) (needs stationEntryOk) false
      (s.router.hasEntry i || (s.station i).state = .test) fun x s =>
      match x with | some e => s.loadStation i e | none => s
  | 3 => loadPlan (readContent readKindEntry mark rest) reservedZero (1 ≤ i && i ≤ 64) (orEmpty kindEntryOk) false
      (s.router.table.any fun e => e.kind = i) fun x s =>
      s.onTables fun t => { t with kinds := put t.kinds (i - 1) x }
  | 4 => loadPlan (readContent readCurrency mark rest) reservedZero (i ≤ 11) (currencyLoadOk s.tables i) frozen
      (s.currencyLoadInUse i) fun x s => s.loadCurrency i x
  | 5 => loadPlan (readContent readDenoms mark rest) reservedZero (i ≤ 11)
      (fun x => (s.tables.currency i).isSome && orEmpty denomsOk x) frozen (s.currencyInUse i) fun x s =>
      s.loadDenoms i (x.getD [])
  | 6 => loadPlan (readContent (Reader.nat 5) mark rest) reservedZero (i ≤ 11) (needs (rateOk i)) frozen false fun x s =>
      match x with
      | some r => (s.onTables fun t => { t with rates := put t.rates i r }).recomputeAll
      | none => s
  | 7 => loadPlan (readContent readLimits mark rest) reservedZero (isDrawer i) (needs limitsOk) frozen false fun x s =>
      match x with
      | some l => (s.onTables fun t => { t with limits := put t.limits i l }).evaluateLimit i
      | none => s
  | 8 => loadPlan (readContent readFormat mark rest) reservedZero (1 ≤ i && i ≤ 96) (orEmpty formatOk) false false fun x s =>
      (s.onTables fun t => { t with formats := put t.formats (i - 1) x }).recompose i
  | 9 => loadPlan (readContent readBank mark rest) reservedZero (i ≤ 3) (needs fun _ => true) false false fun x s =>
      match x with | some b => s.loadBank i b | none => s
  | 10 => loadPlan (readContent readLayout mark rest) reservedZero (i ≤ 7) (orEmpty layoutOk) frozen
      (s.jobHolds fun r => r.bookType = i) fun x s => s.loadLayout i x
  | _ => guardPlan true reservedZero (.refuse .badTable)

/-- R195: the plan of a LOAD TABLE from its fields. -/
def State.loadPlanOf (s : State) (reservedZero : Bool) : List Byte → Plan
  | table :: i :: mark :: rest => s.loadTablePlan reservedZero table.toNat i.toNat mark rest
  | _ => .refuse .badLength

/-! ### READ TABLE (R195) -/

/-- Spec 11: what READ TABLE adds to an entry that is not empty. -/
def Tables.readExtra (t : Tables) (table i : Nat) : List Byte :=
  match table with
  | 8 => match t.format i with | some f => flag f.overlap ++ by1 f.dropped | none => []
  | 10 => match t.layout i with | some b => by1 b.usableCount | none => []
  | _ => []

/-- R195: the return of READ TABLE. A format whose content is over 1,017 bytes makes the body of the MGMT RESP longer than the 1,024 bytes of
R21, and is given whole (assumption 43). -/
def Tables.readReturn (t : Tables) (table i : Nat) : List Byte :=
  match t.content table i with
  | some c => 0 :: c ++ t.readExtra table i
  | none => [1]

/-- R195: the plan of a READ TABLE from its fields. -/
def State.readTablePlan (reservedZero : Bool) (fields : List Byte) : Plan :=
  match fields with
  | [table, i] =>
    guardPlan true reservedZero
      (if table.toNat < 1 || 10 < table.toNat then .refuse .badTable
       else if !(tableEntries table.toNat).contains i.toNat then .refuse .badIndex
       else .perform fun s => (s, s.tables.readReturn table.toNat i.toNat))
  | _ => .refuse .badLength

end Sys2Proof.Machine
end

