-- ==== Sys2Proof/Machine/Management.lean ====
section
/-! DEFINITION. The Management Unit: the plans of the commands (R12, R14, R15, R18, R40, R88, R89, R127, R152, R153, R169, R171, R188, R197 to
R199, R201), the order in which a command is judged (R193), and which row of the table of operations a waiting command belongs
to (assumption 6). -/

namespace Sys2Proof.Machine

/-! ### SET FLAGS and CLEAR FLAGS (R197) -/

/-- Spec 11: the target mask, position 0 the least significant position of the last byte. -/
def maskOf (fields : List Byte) : Option Nat := if fields.length = 5 then some (ofBe fields) else none

/-- Spec 11: the positions of the mask's targets. -/
def holdTargets : List Nat := List.range' 0 24
def enableTargets : List Nat := List.range' 24 8
def standInTarget : Nat := 32
def fallbackTarget : Nat := 33
def rateTarget : Nat := 34

/-- The targets a mask names, in ascending position (assumption 28). -/
def namedTargets (mask : Nat) : List Nat := (List.range 35).filter fun i => mask.testBit i

/-- The branch parameters changed, and the unsaved mark set when a field changes (R197). -/
def State.setParams (f : BranchParams → BranchParams) (s : State) : State :=
  let p := f s.params
  let s' := s.onTables fun t => { t with params := p }
  if p = s.params then s' else s'.onMgmt fun m => { m with unsaved := true }

/-- R127: a port's printer enable field. -/
def setEnableField (p : Nat) (on : Bool) (x : BranchParams) : BranchParams :=
  { x with enables := if on then x.enables ||| (1#8 <<< (p - 1)) else x.enables &&& ~~~(1#8 <<< (p - 1)) }

/-- R14: the loop rate restored. -/
def State.restoreRate (s : State) : State :=
  s.onLoop fun l => { l with rate := s.params.loopRate, goodCount := 0, failCount := 0 }

/-- R197: one target acted on; `on` is true for SET FLAGS. -/
def State.actOnTarget (on : Bool) (s : State) (i : Nat) : State :=
  if i < 24 then (if on then s.holdStation (i + 1) else s.releaseStation (i + 1))
  else if i < 32 then
    let s := s.setParams (setEnableField (i - 23) on)
    if on then s.enablePort (i - 23) else s.disablePort (i - 23)
  else if i = standInTarget then s.setParams fun p => { p with standInEnable := on }
  else if i = fallbackTarget then s.setParams fun p => { p with fallbackDisable := on }
  else if on then s.restoreRate else s

/-- R197: the plan of SET FLAGS and CLEAR FLAGS. -/
def flagsPlan (on reservedZero : Bool) (fields : List Byte) : Plan :=
  match maskOf fields with
  | none => .refuse .badLength
  | some mask =>
    guardPlan true reservedZero
      (if 2 ^ 35 ≤ mask then .refuse .reservedNonzero
       else if namedTargets mask = [] then .refuse .badValue
       else .perform fun s => ((namedTargets mask).foldl (State.actOnTarget on) s, []))

/-! ### The other commands -/

/-- R169: the plan of OPEN DAY. -/
def State.openDayPlan (s : State) (reservedZero : Bool) (fields : List Byte) : Plan :=
  let date := fields.take 8
  let force := fields.drop 8
  guardPlan (fields.length = 9) reservedZero
    (if (readDate date).isNone || !(force = [0] || force = [1]) then .refuse .badValue
     else
       match s.day.state with
       | .opened | .closing | .closed | .sending | .suspended => .refuse .wrongDayState
       | .rejected | .failed =>
         if force = [1] then .perform fun s => (s.openTheDay date, []) else .refuse .wrongDayState
       | .noDay | .sent => .perform fun s => (s.openTheDay date, []))

/-- R171: the plan of CLOSE DAY. -/
def State.closeDayPlan (s : State) (reservedZero : Bool) (fields : List Byte) : Plan :=
  guardPlan (fields = []) reservedZero
    (if s.day.state = .opened then .perform fun s => (s.closeTheDay, []) else .refuse .wrongDayState)

/-- R188: the plan of RESEND EOD. -/
def State.resendPlan (s : State) (reservedZero : Bool) (fields : List Byte) : Plan :=
  guardPlan (fields = []) reservedZero
    (match s.day.state with
     | .sent | .rejected | .failed => .perform fun s => (s.resend, [])
     | _ => .refuse .wrongDayState)

/-- R199: the plan of SET TIME. -/
def setTimePlan (reservedZero : Bool) (fields : List Byte) : Plan :=
  guardPlan (fields.length = 3) reservedZero
    (if 86399 < ofBe fields then .refuse .badValue
     else .perform fun s => (s.onMgmt fun m => { m with clock := ofBe fields, clockSet := true }, []))

/-- R198: the plan of READ STATUS. -/
def readStatusPlan (reservedZero : Bool) (fields : List Byte) : Plan :=
  match fields with
  | [area, i, j] =>
    guardPlan true reservedZero
      (match nameIn areaNames area.toNat with
       | none => .refuse .badValue
       | some a =>
         if !a.itemInRange i.toNat j.toNat then .refuse .badIndex
         else if a.itemStray i.toNat j.toNat then .refuse .reservedNonzero
         else .perform fun s => (s, s.report a i.toNat j.toNat))
  | _ => .refuse .badLength

/-- R15: the test record set up and the station put under test. -/
def State.startTest (a : Nat) (p : Pattern) (injection : Bool) (s : State) : State :=
  (s.withdrawStation a .test).onLoop fun l =>
    { l with test := some { station := a, pattern := p, injection, sent := 0, errors := 0, capture := none } }

/-- R15: the plan of LOOP TEST START. An injection byte other than 00h and 01h is judged with the pattern kind, before the reserved fields and
IN USE: R15 gives it no place (assumption 18). -/
def State.loopTestStartPlan (s : State) (reservedZero : Bool) (fields : List Byte) : Plan :=
  match fields with
  | a :: kind :: rest =>
    let bytes := rest.take 8
    let injection := rest.drop 8
    guardPlan (fields.length = 11) reservedZero
      (if !isStation a.toNat then .refuse .badIndex
       else if !(kind = 1 || kind = 2) || !(injection = [0] || injection = [1]) then .refuse .badValue
       else if kind = 2 && bytes.any (· != 0) then .refuse .reservedNonzero
       else if s.loop.test.isSome || s.router.hasEntry a.toNat then .refuse .inUse
       else .perform fun s =>
         (s.startTest a.toNat (if kind = 1 then .fixed bytes else .pseudo (BitVec.allOnes 15)) (injection = [1]), []))
  | _ => .refuse .badLength

/-- Spec 11: the return of LOOP TEST STOP. -/
def testReturn (t : TestRec) : List Byte :=
  be 3 t.sent ++ by1 t.errors ++ encOpt (be 3) (t.capture.map Capture.index)
  ++ encOpt by1 (t.capture.bind Capture.position) ++ encOpt (fun b => [b]) (t.capture.bind Capture.expected)
  ++ encOpt (fun b => [b]) (t.capture.bind Capture.actual)

/-- R18: the test record cleared and the station made ABSENT. -/
def State.stopTest (a : Nat) (s : State) : State :=
  let s := s.onLoop fun l => { l with test := none }
  let s := s.onStation a fun r => { r with state := .absent, misses := 0 }
  (s.refreshStatus a).endVisitOf a

/-- R18: the plan of LOOP TEST STOP. -/
def State.loopTestStopPlan (s : State) (reservedZero : Bool) (fields : List Byte) : Plan :=
  match fields with
  | [a] =>
    guardPlan true reservedZero
      (if !isStation a.toNat then .refuse .badIndex
       else
         match s.loop.test with
         | some t => if t.station = a.toNat then .perform fun s => (s.stopTest a.toNat, testReturn t) else .refuse .badValue
         | none => .refuse .badValue)
  | _ => .refuse .badLength

/-- R152: lines arriving one at a time; returns the counts of those stored, duplicate and not recorded. -/
def State.loadLines (lines : List LineIn) (s : State) : State × List Arrival :=
  lines.foldl (fun acc l =>
    let r := acc.1.lineArrives l
    (r.1, acc.2 ++ [r.2])) (s, [])

/-- R152: the day states in which pending lines and clears are refused are those of the freeze. -/
def State.loadPendingPlan (s : State) (reservedZero : Bool) (fields : List Byte) : Plan :=
  let own (lines : Option (List LineIn)) : Plan :=
    match lines with
    | none => .refuse .badValue
    | some ls =>
      if s.day.state.frozen then .refuse .wrongDayState
      else .perform fun s =>
        let r := s.loadLines ls
        (r.1, by1 (r.2.count .stored) ++ by1 (r.2.count .duplicate) ++ by1 (r.2.count .notRecorded))
  match (Reader.list 1 16 readPendingLine).whole fields with
  | .length => .refuse .badLength
  | .bad => guardPlan true reservedZero (own none)
  | .ok ls good _ => guardPlan true reservedZero (own (if good then some ls else none))

/-- R153: the plan of CLEAR PENDING. -/
def State.clearPendingPlan (s : State) (reservedZero : Bool) (fields : List Byte) : Plan :=
  guardPlan (fields.length = 12) reservedZero
    (if !allDigits fields then .refuse .badValue
     else if s.day.state.frozen then .refuse .wrongDayState
     else if s.jobHolds fun r => r.account = fields then .refuse .inUse
     else .perform fun s =>
       let r := s.passbook.clearAccount fields
       (s.onPassbook fun _ => r.1, be 2 r.2))

/-- R88: the pairs of a correction, read without their ranges, which R89 judges after the day state. -/
def readChanges : Reader (List Change) :=
  (Reader.nat 1).andThen fun n =>
    Reader.times ((Reader.nat 1).andThen fun denom => (Reader.int 4).map fun change => { denom, change }) n

/-- R89: BAD VALUE of a correction. -/
def State.correctionOk (s : State) (d c : Nat) (changes : List Change) : Bool :=
  (s.tables.currency c).isSome && 1 ≤ changes.length && changes.length ≤ 12
  && changes.all (fun ch => ch.denom < (s.tables.denom c).length && ch.change != 0 && ch.change.natAbs ≤ Config.maxPieces)
  && (changes.map Change.denom).Nodup
  && correctionFits (look (s.drawer d).currencies c).pieces changes

/-- R89: a correction taken and journaled; its return is the entry's sequence. -/
def State.postCorrection (tag d c : Nat) (changes : List Change) (s : State) : State × List Byte :=
  let r := s.correct d c changes
  let w := r.1.journalWrite
    { JEntry.ofKind .correction with drawer := some d, legs := [r.2], detail := some (.correction tag changes) }
  (w.1, be 2 w.2)

/-- R89: the plan of POST CORRECTION. -/
def State.correctionPlan (s : State) (tag : Nat) (reservedZero : Bool) (fields : List Byte) : Plan :=
  match fields with
  | d :: c :: rest =>
    match readChanges.whole rest with
    | .ok changes _ _ =>
      guardPlan true reservedZero
        (if !isDrawer d.toNat || 11 < c.toNat then .refuse .badIndex
         else if s.day.state != .noDay && s.day.state != .opened then .refuse .wrongDayState
         else if !s.correctionOk d.toNat c.toNat changes then .refuse .badValue
         else if !s.journalRoom then .refuse .journalFull
         else .perform fun s => s.postCorrection tag d.toNat c.toNat changes)
    | _ => .refuse .badLength
  | _ => .refuse .badLength

/-- R201: the plan of SAVE SETTINGS. An image too long ends the save at once. -/
def State.savePlan (s : State) (reservedZero : Bool) (fields : List Byte) : Plan :=
  guardPlan (fields = []) reservedZero
    (if Config.settingsBytes < s.tables.imageLength then
       .perform fun s => (s.onMgmt fun m => { m with lastSave := .tooLarge }, saveReturn .tooLarge s.tables.imageLength)
     else .start State.startSave)

/-- R203: the plan of RESTART. -/
def restartPlan (tag : Nat) (reservedZero : Bool) (fields : List Byte) : Plan :=
  guardPlan (fields = []) reservedZero (.start (State.restart tag))

/-! ### Judging (R193) -/

/-- R193, tests 4 to 6: the plan of a command from its reserved byte and its fields. -/
def State.planOf (s : State) (c : Cmd) (tag : Nat) (reservedZero : Bool) (fields : List Byte) : Plan :=
  match c with
  | .loadTable => s.loadPlanOf reservedZero fields
  | .readTable => State.readTablePlan reservedZero fields
  | .readStatus => readStatusPlan reservedZero fields
  | .setFlags => flagsPlan true reservedZero fields
  | .clearFlags => flagsPlan false reservedZero fields
  | .openDay => s.openDayPlan reservedZero fields
  | .closeDay => s.closeDayPlan reservedZero fields
  | .resendEod => s.resendPlan reservedZero fields
  | .setTime => setTimePlan reservedZero fields
  | .saveSettings => s.savePlan reservedZero fields
  | .restart => restartPlan tag reservedZero fields
  | .loopTestStart => s.loopTestStartPlan reservedZero fields
  | .loopTestStop => s.loopTestStopPlan reservedZero fields
  | .loadPending => s.loadPendingPlan reservedZero fields
  | .clearPending => s.clearPendingPlan reservedZero fields
  | .postCorrection => s.correctionPlan tag reservedZero fields

/-- R194: a command taken: it is counted and in flight. -/
def Mgmt.take (code tag : Nat) (m : Mgmt) : Mgmt := { m with inFlight := some ⟨code, tag⟩, taken := bump m.taken }

/-- R193, R194: a plan carried out. -/
def State.carryOut (c : Cmd) (tag : Nat) (p : Plan) (s : State) : State :=
  match p with
  | .refuse r => s.answerRefused c.code tag r
  | .perform f =>
    let r := f (s.onMgmt (Mgmt.take c.code tag))
    r.1.answerDone c.code tag r.2
  | .start f => f (s.onMgmt (Mgmt.take c.code tag))

/-- R193: a command judged from its tag and body. -/
def State.judgeCommand (tag : Nat) (body : List Byte) (s : State) : State :=
  match body with
  | code :: reserved :: fields =>
    match nameIn cmdNames code.toNat with
    | none => if s.mgmt.inFlight.isSome then s.answerRefused code.toNat tag .busy else s.answerRefused code.toNat tag .unknownCommand
    | some c =>
      if c ≠ .restart ∧ s.mgmt.inFlight.isSome then s.answerRefused c.code tag .busy
      else s.carryOut c tag (s.planOf c tag (reserved = 0) fields)
  | _ => s.answerRefused 0 tag .badLength

/-! ### The rows of the table of operations -/

/-- Whether a body is a command of this code, its header whole. -/
def isCommand (c : Cmd) (body : List Byte) : Bool := 2 ≤ body.length && (body.getD 0 0).toNat = c.code

/-- Whether a body is a LOAD TABLE of a table. -/
def isLoad (table : Nat) (body : List Byte) : Bool :=
  isCommand .loadTable body && 3 ≤ body.length && (body.getD 2 0).toNat = table

/-- Whether a body is a SET FLAGS or CLEAR FLAGS whose mask names one of these targets. -/
def isFlags (c : Cmd) (targets : List Nat) (body : List Byte) : Bool :=
  isCommand c body && (match maskOf (body.drop 2) with | some mask => targets.any fun i => mask.testBit i | none => false)

/-- Whether a body is a command that no other row names. -/
def isUnknown (body : List Byte) : Bool :=
  !((List.range' 1 10).any (fun t => isLoad t body)
    || [Cmd.setFlags, .clearFlags].any (fun c => isFlags c (List.range 35) body)
    || [Cmd.readTable, .readStatus, .openDay, .closeDay, .resendEod, .setTime, .saveSettings, .restart, .loopTestStart,
        .loopTestStop, .loadPending, .clearPending, .postCorrection].any fun c => isCommand c body)

/-- R25: the responses owed. -/
def State.responsesOwed (s : State) : Nat :=
  (s.uplink.control.filter fun b => b.cls = .mgmtResp).length + (if s.mgmt.inFlight.isSome then 1 else 0)

/-- R25, R193: in UP, a GOOD MGMT CMD at the head of the receive queue whose body belongs to a row is handed to the Management Unit and
judged, when the responses owed are 2 or fewer. -/
def State.takeCommand (row : List Byte → Bool) (s : State) : State :=
  match s.uplink.rx with
  | [] => s
  | b :: _ =>
    if row b.body && s.responsesOwed ≤ 2 then s.classified .mgmtCmd fun b s => s.judgeCommand b.tag b.body
    else s

end Sys2Proof.Machine
end

