-- ==== Sys2Proof/Machine/LoopFamily.lean ====
section
/-! DEFINITION. The station loop: visits (R6, R7, R16), answers (R3, R8 to R10, R17), misses (R9), and the meanings of VISIT, NIL, REQ,
ALERT_ACK, TEST_ECHO, UNUSABLE_ANSWER, ANSWER_TIMEOUT and ANSWER_MARK_TIMEOUT. -/

namespace Sys2Proof.Machine

/-! ### Visits (R6, R7, R16) -/

/-- R2: a POLL. -/
def pollFrame (a : Nat) : List Byte := loopFrame a 0x10 []

/-- R7: one frame asked for and recorded; the bytes sent are gathered. -/
def State.sendFrame (a : Nat) (acc : State × List (List Byte)) : State × List (List Byte) :=
  let r := acc.1.nextFrame a
  match r.1 with
  | some (f, bytes) => (r.2.onStation a fun x => { x with frames := x.frames ++ [f] }, acc.2 ++ [bytes])
  | none => (r.2, acc.2)

/-- R1, R6: a visit begun: the frames put on the line, and what the visit waits for. -/
def State.beginVisit (a : Nat) (awaited : Awaited) (frames : List (List Byte)) (s : State) : State :=
  s.onLoop fun l =>
    { l with visit := some { station := a, awaited, markWait := false, rate := l.rate }, sentFrames := frames.map frameBits }

/-- R16: one step of the pattern register: its last stage, and the register shifted. -/
def patternStep (r : BitVec 15) : Bool × BitVec 15 :=
  (r.getLsbD 14, (r <<< 1) ||| (if r.getLsbD 13 != r.getLsbD 14 then 1#15 else 0#15))

/-- R16: the next bits of the pattern sequence. -/
def patternBits : Nat → BitVec 15 → List Bool × BitVec 15
  | 0, r => ([], r)
  | n + 1, r =>
    let x := patternStep r
    let rest := patternBits n x.2
    (x.1 :: rest.1, rest.2)

/-- R16: a byte of eight successive bits, the first least significant. -/
def byteOfBits (bits : List Bool) : Byte :=
  (bits.take 8).zipIdx.foldl (fun b x => if x.1 then b ||| (1#8 <<< x.2) else b) 0

/-- R16: n bytes of the pattern sequence. -/
def patternBytes : Nat → BitVec 15 → List Byte × BitVec 15
  | 0, r => ([], r)
  | n + 1, r =>
    let x := patternBits 8 r
    let rest := patternBytes n x.2
    (byteOfBits x.1 :: rest.1, rest.2)

/-- R16: the expected body of the next TEST frame, and the pattern after it. -/
def Pattern.next : Pattern → List Byte × Pattern
  | .fixed bytes => (bytes, .fixed bytes)
  | .pseudo r => ((patternBytes 16 r).1, .pseudo (patternBytes 16 r).2)

/-- R16: the body as sent; an injected frame has its first byte complemented. -/
def testBody (injection : Bool) (index : Nat) (expected : List Byte) : List Byte :=
  if injection && index % 127 = 0 then
    match expected with
    | b :: rest => ~~~b :: rest
    | [] => []
  else expected

/-- R16: the visit to the station in TEST. -/
def State.visitTest (a : Nat) (s : State) : State :=
  match s.loop.test with
  | none => s.onLoop Loop.advance
  | some t =>
    let index := min (t.sent + 1) 16777215
    let x := t.pattern.next
    let s := s.onLoop fun l => { l with test := some { t with sent := index, pattern := x.2 } }
    s.beginVisit a (.test x.1) [loopFrame a 0x13 (testBody t.injection index x.1)]

/-- R6: the visit to the next address. -/
def State.visitNext (s : State) : State :=
  let a := s.loop.nextAddr
  match (s.station a).state with
  | .present | .signed =>
    let r := State.sendFrame a (State.sendFrame a (s, []))
    r.1.beginVisit a .poll (r.2 ++ [pollFrame a])
  | .absent => if s.loop.cycle = 0 then s.beginVisit a .poll [pollFrame a] else s.onLoop Loop.advance
  | .held => s.onLoop Loop.advance
  | .test => s.visitTest a

/-! ### Answers (R3, R8 to R10, R13, R17) -/

/-- R17: errors raised in the test record; the first leaves a capture. -/
def TestRec.raise (n : Nat) (capture : Capture) (t : TestRec) : TestRec :=
  if n = 0 then t
  else { t with errors := min (t.errors + n) 255, capture := some (t.capture.getD capture) }

/-- R17: a lost echo. -/
def TestRec.lostEcho (t : TestRec) : TestRec :=
  t.raise 1 { index := t.sent, position := none, expected := none, actual := none }

/-- R17: the positions, from 1, at which an echo differs from the expected body, with both bytes. -/
def echoDifferences (expected echo : List Byte) : List (Nat × Byte × Byte) :=
  (expected.zip echo).zipIdx.filterMap fun x => if x.1.1 = x.1.2 then none else some (x.2 + 1, x.1.1, x.1.2)

/-- R17: a good echo judged. -/
def TestRec.judgeEcho (expected echo : List Byte) (t : TestRec) : TestRec :=
  match echoDifferences expected echo with
  | [] => t
  | d :: ds => t.raise (ds.length + 1)
      { index := t.sent, position := some d.1, expected := some d.2.1, actual := some d.2.2 }

/-- A change of the test record, when a test runs. -/
def Loop.onTest (f : TestRec → TestRec) (l : Loop) : Loop := { l with test := l.test.map f }

/-- R9, R13, R17: the visit's answer is not good; `counted` says that it is counted in the error window. A visit to a station in TEST
counts a lost echo alone. -/
def State.answerFails (v : Visit) (counted : Bool) (s : State) : State :=
  match v.awaited with
  | .test _ => s.onLoop (Loop.onTest TestRec.lostEcho)
  | .poll =>
    let s := if counted then s.onLoop (Loop.countFailure s.params.fallbackDisable) else s
    match (s.station v.station).state with
    | .present | .signed => s.missStation v.station
    | _ => s

/-- R8, R10: a good answer to a POLL: the frames settled or the station returned, and the answer counted. -/
def State.answerGood (a : Nat) (refused : Bool) (s : State) : State :=
  let s := match (s.station a).state with
    | .present | .signed => (s.onStation a fun r => { r with misses := 0 }).settleFrames a refused
    | .absent => s.returnStation a
    | _ => s
  s.onLoop Loop.countGood

/-- R3, R8: an answer with a good check of a kind that answers a POLL, then what its kind asks for; otherwise it is discarded. -/
def State.pollAnswer (report : Byte) (suits : Bool) (act : Nat → State → State) (s : State) : State :=
  match s.loop.visit with
  | none => s
  | some v =>
    if v.markWait then s
    else if v.awaited = .poll && reportSound report && suits then
      (act v.station (s.answerGood v.station (frameRefused report))).onLoop Loop.endVisit
    else (s.answerFails v false).onLoop Loop.endVisit

/-- R3, R17: a TEST ECHO with a good check. -/
def State.echoAnswer (report : Byte) (body : List Byte) (s : State) : State :=
  match s.loop.visit with
  | none => s
  | some v =>
    if v.markWait then s
    else
      match v.awaited with
      | .test expected =>
        if reportSound report && body.length = expected.length then
          (s.onLoop (Loop.onTest (TestRec.judgeEcho expected body))).onLoop Loop.endVisit
        else (s.answerFails v false).onLoop Loop.endVisit
      | .poll => (s.answerFails v false).onLoop Loop.endVisit

/-- R3, R9: an answer that is not good, from its characters. A first character of a wrong address, or not marked, leaves the visit waiting
for the line to be at mark; any other framing error, a stop bit of the first character at space among them, ends the visit at once
(assumption 9). -/
def State.unusable (chars : List LoopChar) (s : State) : State :=
  match s.loop.visit with
  | none => s
  | some v =>
    if v.markWait then s
    else
      match classify v.station v.awaited chars with
      | .undecided | .good => s
      | .firstCharacter => (s.answerFails v true).onLoop fun l => { l with visit := some { v with markWait := true } }
      | .framing | .check => (s.answerFails v true).onLoop Loop.endVisit
      | .discarded => (s.answerFails v false).onLoop Loop.endVisit

/-- R3: no start bit within 1 ms. -/
def State.silence (s : State) : State :=
  match s.loop.visit with
  | none => s
  | some v => if v.markWait then s else (s.answerFails v false).onLoop Loop.endVisit

/-- R3: the line at mark for the time of 4 characters: a framing error of an answer that has begun, or the end of a visit whose answer its
first character decided. -/
def State.markTimeout (s : State) : State :=
  match s.loop.visit with
  | none => s
  | some v => if v.markWait then s.onLoop Loop.endVisit else (s.answerFails v true).onLoop Loop.endVisit

/-! ### Meanings -/

/-- VISIT (R6, R7, R16). The first loop cycle begins when start-up has finished (R19). -/
def execVisit (s : State) : Host.Outcome State Fault Refusal :=
  .next (if s.phase = .running && s.loop.visit.isNone then s.visitNext else s)

/-- NIL (R8). -/
def execNil (report : Byte) (s : State) : Host.Outcome State Fault Refusal :=
  .next (s.pollAnswer report true fun _ s => s)

/-- REQ (R8, R41). A REQ without a request body is discarded (R3). -/
def execReq (report : Byte) (body : List Byte) (s : State) : Host.Outcome State Fault Refusal :=
  .next (s.pollAnswer report (body != []) fun a s => s.takeRequest a body)

/-- ALERT_ACK (R8, R110). -/
def execAlertAck (report : Byte) (s : State) : Host.Outcome State Fault Refusal :=
  .next (s.pollAnswer report true State.acknowledgeAlert)

/-- TEST_ECHO (R17). -/
def execTestEcho (report : Byte) (body : List Byte) (s : State) : Host.Outcome State Fault Refusal :=
  .next (s.echoAnswer report body)

/-- UNUSABLE_ANSWER (R3, R9, R17). -/
def execUnusableAnswer (chars : List LoopChar) (s : State) : Host.Outcome State Fault Refusal := .next (s.unusable chars)

/-- ANSWER_TIMEOUT (R3, R9, R17). -/
def execAnswerTimeout (s : State) : Host.Outcome State Fault Refusal := .next s.silence

/-- ANSWER_MARK_TIMEOUT (R3, R9, R17). -/
def execAnswerMarkTimeout (s : State) : Host.Outcome State Fault Refusal := .next s.markTimeout

end Sys2Proof.Machine
end

