-- ==== Sys2Proof/Machine/LinkFamily.lean ====
section
/-! DEFINITION. The uplink and the router's events: the meanings of CARRIER_PRESENT to BLOCK_LEFT_TRANSMITTER, REPLY, DEADLINE_EXPIRY,
FORWARDER_OFFER and BULLETIN. -/

namespace Sys2Proof.Machine

/-- CARRIER_PRESENT (R27, R28, R37). Before start-up has finished the uplink does not look for carrier. -/
def execCarrierPresent (s : State) : Host.Outcome State Fault Refusal :=
  let s := { s with carrier := true }
  .next (if s.phase = .running then s.seekCarrier else s)

/-- CARRIER_LOST (R27). -/
def execCarrierLost (s : State) : Host.Outcome State Fault Refusal :=
  let s := { s with carrier := false }
  .next (if s.uplink.link = .down then s else s.enterDown)

/-- BLOCK_COMPLETE (R23, R24, R30). -/
def execBlockComplete (bytes : List Byte) (time : Nat) (s : State) : Host.Outcome State Fault Refusal :=
  .next (s.takeBlock bytes time)

/-- BAD_BLOCK (R25, R26, R30). -/
def execBadBlock (s : State) : Host.Outcome State Fault Refusal := .next s.classifyBad

/-- SYNC (R25, R28, R31). -/
def execSync (s : State) : Host.Outcome State Fault Refusal := .next s.takeSync

/-- ATTEMPT_TIMER (R29). -/
def execAttemptTimer (s : State) : Host.Outcome State Fault Refusal :=
  .next (if s.uplink.link = .sync && running s.uplink.attemptTimer then s.onUplink (Uplink.attemptFailed s.params) else s)

/-- SYNC_OFFER (R28, R31). -/
def execSyncOffer (s : State) : Host.Outcome State Fault Refusal :=
  .next (if running s.uplink.syncTimer then s.onUplink Uplink.startSyncOffers else s)

/-- KEEP_ALIVE (R30). -/
def execKeepAlive (s : State) : Host.Outcome State Fault Refusal :=
  .next (if running s.uplink.keepAliveTimer then
    s.onUplink fun u => { u.offerSync with keepAliveTimer := some Config.keepAliveMs } else s)

/-- SILENCE_TIMER (R30). -/
def execSilenceTimer (s : State) : Host.Outcome State Fault Refusal :=
  .next (if s.uplink.link = .up && running s.uplink.silenceTimer then s.silenceOver else s)

/-- RECOVERY_LIMIT (R31). -/
def execRecoveryLimit (s : State) : Host.Outcome State Fault Refusal :=
  .next (if s.uplink.link = .recovery && running s.uplink.recoveryTimer then s.recoveryOver else s)

/-- HOLD (R32). -/
def execHold (s : State) : Host.Outcome State Fault Refusal :=
  .next (s.classified .hold fun _ s => s.onUplink Uplink.hold)

/-- RELEASE (R32): taken while not held it does nothing. -/
def execRelease (s : State) : Host.Outcome State Fault Refusal :=
  .next (s.classified .release fun _ s => if s.uplink.held then s.onUplink Uplink.release else s)

/-- HOLD_TIMER (R32). -/
def execHoldTimer (s : State) : Host.Outcome State Fault Refusal :=
  .next (if s.uplink.held && running s.uplink.holdTimer then s.onUplink Uplink.autoRelease else s)

/-- TRANSMIT_START (R34). -/
def execTransmitStart (s : State) : Host.Outcome State Fault Refusal :=
  .next (s.onUplink (Uplink.startTransmit s.params.branch))

/-- BLOCK_LEFT_TRANSMITTER (R34, R46, R181). -/
def execBlockLeftTransmitter (s : State) : Host.Outcome State Fault Refusal := .next s.blockLeft

/-- REPLY (R50). -/
def execReply (s : State) : Host.Outcome State Fault Refusal :=
  .next (s.classified .reply fun b s => s.takeReply (tagOf b.tag) b.body)

/-- DEADLINE_EXPIRY (R53, R61, R62). -/
def execDeadlineExpiry (tag : Tag) (s : State) : Host.Outcome State Fault Refusal :=
  .next (match s.router.entry tag with
    | some e => if !running e.timer then s else if e.isForward then s.forwardTimedOut e else s.timedOut e
    | none => s)

/-- FORWARDER_OFFER (R60). -/
def execForwarderOffer (s : State) : Host.Outcome State Fault Refusal :=
  .next (State.forwardEntries Config.forwardEntries s)

/-- BULLETIN (R109). -/
def execBulletin (s : State) : Host.Outcome State Fault Refusal :=
  .next (s.classified .bulletin fun b s => s.takeBulletin b.body)

end Sys2Proof.Machine
end

