-- ==== Sys2Proof/Machine/PortFamily.lean ====
section
/-! DEFINITION. The printer ports: the meanings of ATTEND to POLL_TIMER. -/

namespace Sys2Proof.Machine

/-- ATTEND (R117, R207). While the INTERLOCK input is open ATTEND reads as low. -/
def execAttend (port : Nat) (interlock : Bool) (s : State) : Host.Outcome State Fault Refusal :=
  .next (if isPort port && interlock && (s.port port).dialogue = .selecting then
    s.onPort port fun p => { p with selectTimer := none, dialogue := .waiting, stepTimer := some Config.phaseStepMs }
    else s)

/-- SELECT_TIMER (R117). -/
def execSelectTimer (port : Nat) (s : State) : Host.Outcome State Fault Refusal :=
  .next (if isPort port && (s.port port).dialogue = .selecting && running (s.port port).selectTimer then s.noAnswer port else s)

/-- PHASE_REQUEST (R118, R119). A code that names no phase aborts the dialogue. -/
def execPhaseRequest (port : Nat) (phase : BitVec 3) (s : State) : Host.Outcome State Fault Refusal :=
  .next (if isPort port && (s.port port).dialogue.attended then
    match phaseOf phase with
    | some d => s.onPort port fun p => { p with dialogue := d, stepTimer := some Config.phaseStepMs }
    | none => s.abortDialogue port
    else s)

/-- BYTE_REQUEST (R118 to R122). -/
def execByteRequest (port : Nat) (byte : Byte) (s : State) : Host.Outcome State Fault Refusal :=
  .next (if isPort port then
    match (s.port port).dialogue with
    | .orderOut => s.onPort port Port.orderByte
    | .dataOut => s.onPort port Port.dataByte
    | .dataIn => s.onPort port (Port.returnByte byte)
    | .stateIn => s.takeStatusByte port byte
    | .closeIn => s.closeDialogue port byte
    | .none | .selecting | .waiting | .retryWait => s
    else s)

/-- PHASE_STEP_TIMER (R119). -/
def execPhaseStepTimer (port : Nat) (s : State) : Host.Outcome State Fault Refusal :=
  .next (if isPort port && (s.port port).dialogue.attended && running (s.port port).stepTimer then s.abortDialogue port else s)

/-- PORT_RESET_END (R116). A dialogue that fell due during the pulse begins. -/
def execPortResetEnd (port : Nat) (s : State) : Host.Outcome State Fault Refusal :=
  .next (if isPort port && running (s.port port).pulseTimer then
    s.onPort port fun p => if p.due then { p with pulseTimer := none }.raise else { p with pulseTimer := none }
    else s)

/-- RETRY_TIMER (R121). -/
def execRetryTimer (port : Nat) (s : State) : Host.Outcome State Fault Refusal :=
  .next (if isPort port && (s.port port).dialogue = .retryWait && running (s.port port).retryTimer then
    s.onPort port fun p =>
      (if p.sensing then { p with dialogue := .none, retryTimer := none, senseAttempts := p.senseAttempts + 1 }
       else { p with dialogue := .none, retryTimer := none, attempts := p.attempts + 1 }).start
    else s)

/-- READY_WAIT (R127). -/
def execReadyWait (port : Nat) (s : State) : Host.Outcome State Fault Refusal :=
  .next (if isPort port && (s.port port).state = .notReady && running (s.port port).readyTimer then s.readyWaitOver port else s)

/-- POLL_TIMER (R127 to R129). -/
def execPollTimer (port : Nat) (s : State) : Host.Outcome State Fault Refusal :=
  .next (if isPort port && running (s.port port).pollTimer then s.onPort port Port.startPoll else s)

end Sys2Proof.Machine
end

