-- ==== Sys2Proof/Machine/DayFamily.lean ====
section
/-! DEFINITION. The business day: the meanings of FORCE_CLOSE to ACK_TIMER. -/

namespace Sys2Proof.Machine

/-- FORCE_CLOSE (R173). -/
def execForceClose (drawer : Nat) (s : State) : Host.Outcome State Fault Refusal :=
  .next (if isDrawer drawer then s.drawerFree drawer else s)

/-- FREEZE (R174, R175). -/
def execFreeze (s : State) : Host.Outcome State Fault Refusal := .next s.judgeFreeze

/-- SEND_ATTEMPT_START (R180). -/
def execSendAttemptStart (s : State) : Host.Outcome State Fault Refusal := .next s.startSending

/-- EOD_SEGMENT_OFFER (R181). -/
def execEodSegmentOffer (s : State) : Host.Outcome State Fault Refusal := .next (State.offerSegments Config.sendWindow s)

/-- EOD_ACK (R183, R184). -/
def execEodAck (s : State) : Host.Outcome State Fault Refusal :=
  .next (s.classified .eodAck fun b s => s.takeAck b.tag b.body)

/-- EOD_NAK (R185). -/
def execEodNak (s : State) : Host.Outcome State Fault Refusal :=
  .next (s.classified .eodNak fun b s => s.takeNak b.tag b.body)

/-- ACK_TIMER (R186). -/
def execAckTimer (s : State) : Host.Outcome State Fault Refusal :=
  .next (if s.day.state = .sending && running s.day.timer then s.ackTimerOver else s)

end Sys2Proof.Machine
end

