-- ==== Sys2Proof/Machine/ManagementFamily.lean ====
section
/-! DEFINITION. The management commands: the meanings of LOAD_BRANCH_PARAMETERS to UNKNOWN_COMMAND. Each is the classifier's hand-over of the
MGMT CMD at the head of the receive queue (R25), when its body belongs to the row (assumption 6), and its judging (R193). -/

namespace Sys2Proof.Machine

/-- LOAD_BRANCH_PARAMETERS (R14, R36, R40, R102, R127, R196). -/
def execLoadBranchParameters (s : State) : Host.Outcome State Fault Refusal := .next (s.takeCommand (isLoad 1))

/-- LOAD_STATION_TABLE (R4). -/
def execLoadStationTable (s : State) : Host.Outcome State Fault Refusal := .next (s.takeCommand (isLoad 2))

/-- LOAD_TRANSACTION_KINDS (R39). -/
def execLoadTransactionKinds (s : State) : Host.Outcome State Fault Refusal := .next (s.takeCommand (isLoad 3))

/-- LOAD_CURRENCIES (R66). -/
def execLoadCurrencies (s : State) : Host.Outcome State Fault Refusal := .next (s.takeCommand (isLoad 4))

/-- LOAD_DENOMINATION_LISTS (R67). -/
def execLoadDenominationLists (s : State) : Host.Outcome State Fault Refusal := .next (s.takeCommand (isLoad 5))

/-- LOAD_RATES (R68). -/
def execLoadRates (s : State) : Host.Outcome State Fault Refusal := .next (s.takeCommand (isLoad 6))

/-- LOAD_DRAWER_LIMITS (R80). -/
def execLoadDrawerLimits (s : State) : Host.Outcome State Fault Refusal := .next (s.takeCommand (isLoad 7))

/-- LOAD_FORMATS (R97, R104). -/
def execLoadFormats (s : State) : Host.Outcome State Fault Refusal := .next (s.takeCommand (isLoad 8))

/-- LOAD_ATTRIBUTE_BANKS (R95). -/
def execLoadAttributeBanks (s : State) : Host.Outcome State Fault Refusal := .next (s.takeCommand (isLoad 9))

/-- LOAD_BOOK_LAYOUTS (R136). -/
def execLoadBookLayouts (s : State) : Host.Outcome State Fault Refusal := .next (s.takeCommand (isLoad 10))

/-- READ_TABLE (R195). -/
def execReadTable (s : State) : Host.Outcome State Fault Refusal := .next (s.takeCommand (isCommand .readTable))

/-- READ_STATUS (R198). -/
def execReadStatus (s : State) : Host.Outcome State Fault Refusal := .next (s.takeCommand (isCommand .readStatus))

/-- SET_HOLD (R12, R197). -/
def execSetHold (s : State) : Host.Outcome State Fault Refusal := .next (s.takeCommand (isFlags .setFlags holdTargets))

/-- CLEAR_HOLD (R12, R197). -/
def execClearHold (s : State) : Host.Outcome State Fault Refusal := .next (s.takeCommand (isFlags .clearFlags holdTargets))

/-- SET_ENABLE (R127, R197). -/
def execSetEnable (s : State) : Host.Outcome State Fault Refusal := .next (s.takeCommand (isFlags .setFlags enableTargets))

/-- CLEAR_ENABLE (R131, R197). -/
def execClearEnable (s : State) : Host.Outcome State Fault Refusal := .next (s.takeCommand (isFlags .clearFlags enableTargets))

/-- SET_STAND_IN_ENABLE (R40, R197). -/
def execSetStandInEnable (s : State) : Host.Outcome State Fault Refusal := .next (s.takeCommand (isFlags .setFlags [standInTarget]))

/-- CLEAR_STAND_IN_ENABLE (R40, R197). -/
def execClearStandInEnable (s : State) : Host.Outcome State Fault Refusal := .next (s.takeCommand (isFlags .clearFlags [standInTarget]))

/-- SET_LOOP_FALLBACK_DISABLE (R14, R197). -/
def execSetLoopFallbackDisable (s : State) : Host.Outcome State Fault Refusal := .next (s.takeCommand (isFlags .setFlags [fallbackTarget]))

/-- CLEAR_LOOP_FALLBACK_DISABLE (R14, R197). -/
def execClearLoopFallbackDisable (s : State) : Host.Outcome State Fault Refusal := .next (s.takeCommand (isFlags .clearFlags [fallbackTarget]))

/-- RATE_RESTORE (R14, R197). -/
def execRateRestore (s : State) : Host.Outcome State Fault Refusal := .next (s.takeCommand (fun body => isFlags .setFlags [rateTarget] body || isFlags .clearFlags [rateTarget] body))

/-- OPEN_DAY (R169, R170). -/
def execOpenDay (s : State) : Host.Outcome State Fault Refusal := .next (s.takeCommand (isCommand .openDay))

/-- CLOSE_DAY (R171, R172). -/
def execCloseDay (s : State) : Host.Outcome State Fault Refusal := .next (s.takeCommand (isCommand .closeDay))

/-- RESEND_EOD (R188). -/
def execResendEod (s : State) : Host.Outcome State Fault Refusal := .next (s.takeCommand (isCommand .resendEod))

/-- SET_TIME (R199). -/
def execSetTime (s : State) : Host.Outcome State Fault Refusal := .next (s.takeCommand (isCommand .setTime))

/-- SAVE_SETTINGS (R201). -/
def execSaveSettings (s : State) : Host.Outcome State Fault Refusal := .next (s.takeCommand (isCommand .saveSettings))

/-- RESTART (R203). -/
def execRestart (s : State) : Host.Outcome State Fault Refusal := .next (s.takeCommand (isCommand .restart))

/-- LOOP_TEST_START (R15). -/
def execLoopTestStart (s : State) : Host.Outcome State Fault Refusal := .next (s.takeCommand (isCommand .loopTestStart))

/-- LOOP_TEST_STOP (R18). -/
def execLoopTestStop (s : State) : Host.Outcome State Fault Refusal := .next (s.takeCommand (isCommand .loopTestStop))

/-- LOAD_PENDING (R152). -/
def execLoadPending (s : State) : Host.Outcome State Fault Refusal := .next (s.takeCommand (isCommand .loadPending))

/-- CLEAR_PENDING (R153). -/
def execClearPending (s : State) : Host.Outcome State Fault Refusal := .next (s.takeCommand (isCommand .clearPending))

/-- POST_CORRECTION (R88, R89). -/
def execPostCorrection (s : State) : Host.Outcome State Fault Refusal := .next (s.takeCommand (isCommand .postCorrection))

/-- UNKNOWN_COMMAND (R193, R195, R197). -/
def execUnknownCommand (s : State) : Host.Outcome State Fault Refusal := .next (s.takeCommand isUnknown)

end Sys2Proof.Machine
end

