-- ==== Sys2Proof/Machine/StartFamily.lean ====
section
/-! DEFINITION. The settings memory, the starts and the clock: the meanings of SETTINGS_WRITE_COMPLETE to CLOCK_SECOND. -/

namespace Sys2Proof.Machine

/-- SETTINGS_WRITE_COMPLETE (R201). -/
def execSettingsWriteComplete (s : State) : Host.Outcome State Fault Refusal := .next s.writeComplete

/-- SETTINGS_READ_BACK (R201). -/
def execSettingsReadBack (answer : MemoryAnswer) (s : State) : Host.Outcome State Fault Refusal := .next (s.readBack answer)

/-- SETTINGS_WRITE_TIMEOUT (R201). -/
def execSettingsWriteTimeout (s : State) : Host.Outcome State Fault Refusal := .next s.writeTimeout

/-- SAVE_TIMER (R201). -/
def execSaveTimer (s : State) : Host.Outcome State Fault Refusal := .next s.saveTimeout

/-- RESTART_RESPONSE (R204). -/
def execRestartResponse (s : State) : Host.Outcome State Fault Refusal := .next s.restartResponse

/-- POWER_UP (R202). While RESET is asserted the part stays held, and its cold start is the one that the release of RESET begins
(R207; DESIGN CHOICE, assumption 56). -/
def execPowerUp (s : State) : Host.Outcome State Fault Refusal :=
  .next (if s.phase = .resetHeld then s.holdReset else s.beginCold .powerUp)

/-- RESET_ASSERTED (R202, R207). -/
def execResetAsserted (s : State) : Host.Outcome State Fault Refusal := .next s.holdReset

/-- RESET_RELEASED (R202, R207). -/
def execResetReleased (s : State) : Host.Outcome State Fault Refusal :=
  .next (if s.phase = .resetHeld then s.beginCold .resetPin else s)

/-- SETTINGS_IMAGE_READ (R200, R202). -/
def execSettingsImageRead (answer : MemoryAnswer) (s : State) : Host.Outcome State Fault Refusal :=
  .next (if s.phase = .readingImage then s.finishCold (readImage (s.memoryAnswer Config.settingsBytes answer)) else s)

/-- SETTINGS_READ_TIMEOUT (R202). -/
def execSettingsReadTimeout (s : State) : Host.Outcome State Fault Refusal :=
  .next (if s.phase = .readingImage then s.finishCold none else s)

/-- CLOCK_SECOND (R199). -/
def execClockSecond (s : State) : Host.Outcome State Fault Refusal :=
  .next (if s.mgmt.clockSet then s.onMgmt fun m => { m with clock := (m.clock + 1) % 86400 } else s)

end Sys2Proof.Machine
end

