-- ==== Sys2Proof/Machine/Dispatch.lean ====
section
/-! DEFINITION. The meaning of each command: one arm for each constructor of Instr. -/

namespace Sys2Proof.Machine

def exec (i : Instr) (s : State) : Host.Outcome State Fault Refusal :=
  match i with
  | .visit => Sys2Proof.Machine.execVisit s
  | .nil report => Sys2Proof.Machine.execNil report s
  | .req report body => Sys2Proof.Machine.execReq report body s
  | .alertAck report => Sys2Proof.Machine.execAlertAck report s
  | .testEcho report body => Sys2Proof.Machine.execTestEcho report body s
  | .unusableAnswer chars => Sys2Proof.Machine.execUnusableAnswer chars s
  | .answerTimeout => Sys2Proof.Machine.execAnswerTimeout s
  | .answerMarkTimeout => Sys2Proof.Machine.execAnswerMarkTimeout s
  | .carrierPresent => Sys2Proof.Machine.execCarrierPresent s
  | .carrierLost => Sys2Proof.Machine.execCarrierLost s
  | .blockComplete bytes time => Sys2Proof.Machine.execBlockComplete bytes time s
  | .badBlock => Sys2Proof.Machine.execBadBlock s
  | .sync => Sys2Proof.Machine.execSync s
  | .attemptTimer => Sys2Proof.Machine.execAttemptTimer s
  | .syncOffer => Sys2Proof.Machine.execSyncOffer s
  | .keepAlive => Sys2Proof.Machine.execKeepAlive s
  | .silenceTimer => Sys2Proof.Machine.execSilenceTimer s
  | .recoveryLimit => Sys2Proof.Machine.execRecoveryLimit s
  | .hold => Sys2Proof.Machine.execHold s
  | .release => Sys2Proof.Machine.execRelease s
  | .holdTimer => Sys2Proof.Machine.execHoldTimer s
  | .transmitStart => Sys2Proof.Machine.execTransmitStart s
  | .blockLeftTransmitter => Sys2Proof.Machine.execBlockLeftTransmitter s
  | .reply => Sys2Proof.Machine.execReply s
  | .deadlineExpiry tag => Sys2Proof.Machine.execDeadlineExpiry tag s
  | .forwarderOffer => Sys2Proof.Machine.execForwarderOffer s
  | .bulletin => Sys2Proof.Machine.execBulletin s
  | .attend port interlock => Sys2Proof.Machine.execAttend port interlock s
  | .selectTimer port => Sys2Proof.Machine.execSelectTimer port s
  | .phaseRequest port phase => Sys2Proof.Machine.execPhaseRequest port phase s
  | .byteRequest port byte => Sys2Proof.Machine.execByteRequest port byte s
  | .phaseStepTimer port => Sys2Proof.Machine.execPhaseStepTimer port s
  | .portResetEnd port => Sys2Proof.Machine.execPortResetEnd port s
  | .retryTimer port => Sys2Proof.Machine.execRetryTimer port s
  | .readyWait port => Sys2Proof.Machine.execReadyWait port s
  | .pollTimer port => Sys2Proof.Machine.execPollTimer port s
  | .forceClose drawer => Sys2Proof.Machine.execForceClose drawer s
  | .freeze => Sys2Proof.Machine.execFreeze s
  | .sendAttemptStart => Sys2Proof.Machine.execSendAttemptStart s
  | .eodSegmentOffer => Sys2Proof.Machine.execEodSegmentOffer s
  | .eodAck => Sys2Proof.Machine.execEodAck s
  | .eodNak => Sys2Proof.Machine.execEodNak s
  | .ackTimer => Sys2Proof.Machine.execAckTimer s
  | .loadBranchParameters => Sys2Proof.Machine.execLoadBranchParameters s
  | .loadStationTable => Sys2Proof.Machine.execLoadStationTable s
  | .loadTransactionKinds => Sys2Proof.Machine.execLoadTransactionKinds s
  | .loadCurrencies => Sys2Proof.Machine.execLoadCurrencies s
  | .loadDenominationLists => Sys2Proof.Machine.execLoadDenominationLists s
  | .loadRates => Sys2Proof.Machine.execLoadRates s
  | .loadDrawerLimits => Sys2Proof.Machine.execLoadDrawerLimits s
  | .loadFormats => Sys2Proof.Machine.execLoadFormats s
  | .loadAttributeBanks => Sys2Proof.Machine.execLoadAttributeBanks s
  | .loadBookLayouts => Sys2Proof.Machine.execLoadBookLayouts s
  | .readTable => Sys2Proof.Machine.execReadTable s
  | .readStatus => Sys2Proof.Machine.execReadStatus s
  | .setHold => Sys2Proof.Machine.execSetHold s
  | .clearHold => Sys2Proof.Machine.execClearHold s
  | .setEnable => Sys2Proof.Machine.execSetEnable s
  | .clearEnable => Sys2Proof.Machine.execClearEnable s
  | .setStandInEnable => Sys2Proof.Machine.execSetStandInEnable s
  | .clearStandInEnable => Sys2Proof.Machine.execClearStandInEnable s
  | .setLoopFallbackDisable => Sys2Proof.Machine.execSetLoopFallbackDisable s
  | .clearLoopFallbackDisable => Sys2Proof.Machine.execClearLoopFallbackDisable s
  | .rateRestore => Sys2Proof.Machine.execRateRestore s
  | .openDay => Sys2Proof.Machine.execOpenDay s
  | .closeDay => Sys2Proof.Machine.execCloseDay s
  | .resendEod => Sys2Proof.Machine.execResendEod s
  | .setTime => Sys2Proof.Machine.execSetTime s
  | .saveSettings => Sys2Proof.Machine.execSaveSettings s
  | .restart => Sys2Proof.Machine.execRestart s
  | .loopTestStart => Sys2Proof.Machine.execLoopTestStart s
  | .loopTestStop => Sys2Proof.Machine.execLoopTestStop s
  | .loadPending => Sys2Proof.Machine.execLoadPending s
  | .clearPending => Sys2Proof.Machine.execClearPending s
  | .postCorrection => Sys2Proof.Machine.execPostCorrection s
  | .unknownCommand => Sys2Proof.Machine.execUnknownCommand s
  | .settingsWriteComplete => Sys2Proof.Machine.execSettingsWriteComplete s
  | .settingsReadBack answer => Sys2Proof.Machine.execSettingsReadBack answer s
  | .settingsWriteTimeout => Sys2Proof.Machine.execSettingsWriteTimeout s
  | .saveTimer => Sys2Proof.Machine.execSaveTimer s
  | .restartResponse => Sys2Proof.Machine.execRestartResponse s
  | .powerUp => Sys2Proof.Machine.execPowerUp s
  | .resetAsserted => Sys2Proof.Machine.execResetAsserted s
  | .resetReleased => Sys2Proof.Machine.execResetReleased s
  | .settingsImageRead answer => Sys2Proof.Machine.execSettingsImageRead answer s
  | .settingsReadTimeout => Sys2Proof.Machine.execSettingsReadTimeout s
  | .clockSecond => Sys2Proof.Machine.execClockSecond s

end Sys2Proof.Machine
end

