-- ==== Sys2Proof/Machine/Tick.lean ====
section
/-! DEFINITION. What an empty queue does: one millisecond of the part's own time passes (assumption 1). Every running timer has
one millisecond less left; its expiry is a command of the table (assumption 5). -/

namespace Sys2Proof.Machine

/-- One millisecond passes at the uplink's timers (R28 to R32). -/
def Uplink.tick (u : Uplink) : Uplink :=
  { u with
    attemptTimer := tickTimer u.attemptTimer, syncTimer := tickTimer u.syncTimer
    keepAliveTimer := tickTimer u.keepAliveTimer, silenceTimer := tickTimer u.silenceTimer
    recoveryTimer := tickTimer u.recoveryTimer, holdTimer := tickTimer u.holdTimer }

/-- One millisecond passes at a port's timers (R116 to R121, R127, R128). -/
def Port.tick (p : Port) : Port :=
  { p with
    selectTimer := tickTimer p.selectTimer, stepTimer := tickTimer p.stepTimer, retryTimer := tickTimer p.retryTimer
    readyTimer := tickTimer p.readyTimer, pollTimer := tickTimer p.pollTimer, pulseTimer := tickTimer p.pulseTimer }

/-- One millisecond passes at the deadline timers (R48). -/
def Router.tick (r : Router) : Router :=
  { r with table := r.table.map fun e => { e with timer := tickTimer e.timer } }

/-- One millisecond passes at the acknowledgement timer (R181). -/
def Day.tick (d : Day) : Day := { d with timer := tickTimer d.timer }

/-- One millisecond passes at the timers of a save (R201). -/
def Mgmt.tick (m : Mgmt) : Mgmt :=
  { m with save := m.save.map fun x =>
      { x with writeTimer := tickTimer x.writeTimer, saveTimer := tickTimer x.saveTimer } }

/-- One millisecond passes. -/
def State.tick (s : State) : State :=
  { s with
    uplink := s.uplink.tick, ports := s.ports.map Port.tick, router := s.router.tick, day := s.day.tick, mgmt := s.mgmt.tick }

end Sys2Proof.Machine
end

