-- ==== Sys2Proof/Safety.lean ====
section
/-! DEFINITION. What counts as a safe run of the Gelmar 2400, and the conditions and invariants the statements are made in. -/

namespace Sys2Proof.Machine

/-! ### Steps -/

/-- A command completes in a state when its meaning answers a next state. -/
def Completes (c : Instr) (s : State) : Prop := ∃ t, exec c s = .next t

/-- A step is safe when it answers a next state. -/
def SafeStep (s : State) : Prop := ∃ t, step s = .next t

/-! ### Conditions on the uplink -/

/-- R25: in UP, the head of the receive queue is a GOOD block of a class. -/
def HeadBlock (s : State) (cls : BlockClass) (b : RxBlock) : Prop :=
  s.uplink.link = .up ∧ s.uplink.rx.head? = some b ∧ b.status = .good ∧ b.cls = some cls

/-- R24: the lost count of the block at the head of the receive queue. -/
def Uplink.headLost (u : Uplink) : Nat := (u.rx.head?.map RxBlock.lost).getD 0

/-- R24, R25, R30: the uplink once a GOOD block has been taken in UP and handled, by an act that leaves the uplink alone: the head is gone,
the good counter has risen by one, the block is counted in the burst counts, and its lost count is reported. -/
def Uplink.afterGood (u : Uplink) : Uplink := u.taken.reportLost u.headLost

/-- R23, R24: a block stored: at the tail of the receive queue, or with the queue full lost, the newest stored block's lost count rising. -/
def BlockStored (s t : State) (b : RxBlock) : Prop :=
  (s.uplink.rx.length < 8 → t.uplink.rx = s.uplink.rx ++ [b])
  ∧ (8 ≤ s.uplink.rx.length → ∀ older newest, s.uplink.rx = older ++ [newest] →
      t.uplink.rx = older ++ [{ newest with lost := min (newest.lost + 1) 255 }])

/-- R27: the uplink after an entry to DOWN. The receive and control queues are flushed, the hold is cleared, and every timer and stamp is
stopped. A control block being sent is broken off; in a link-lost event the data queue is flushed and a data block is broken off too. -/
def Uplink.afterDown (lost : Bool) (u : Uplink) : Uplink :=
  { u with
    link := .down, rx := [], control := [], data := if lost = true then [] else u.data
    sending := u.sending.map fun x =>
      if lost = true ∨ (x.block.cls ≠ .request ∧ x.block.cls ≠ .eodSeg) then { x with broken := true } else x
    held := false, holdTimer := none, attemptTimer := none, syncTimer := none, silenceTimer := none, keepAliveTimer := none
    recoveryTimer := none, firstSync := none }

/-- R25, R193, R194: a management command with this tag and body may be taken: it is a GOOD MGMT CMD at the head of the receive queue,
the responses owed are 2 or fewer, and no command is in flight. -/
def CommandAtHead (s : State) (tag : Nat) (body : List Byte) : Prop :=
  (∃ b, HeadBlock s .mgmtCmd b ∧ b.tag = tag ∧ b.body = body) ∧ s.responsesOwed ≤ 2 ∧ s.mgmt.inFlight = none

/-- R25: a management command with this tag and body may be handed over, whether or not a command is in flight. -/
def CommandHanded (s : State) (tag : Nat) (body : List Byte) : Prop :=
  (∃ b, HeadBlock s .mgmtCmd b ∧ b.tag = tag ∧ b.body = body) ∧ s.responsesOwed ≤ 2

/-- R192, R193, R205: the state after a refusal. The command's block is taken; the response carries the code, result REFUSED, the reason and
the state byte; the counter of the reason has risen; nothing else has changed. -/
def State.refused (s : State) (tag : Nat) (code : Byte) (r : MgmtReason) : State :=
  let n := codeIn mgmtReasonNames r
  { s with
    uplink := { s.uplink.afterGood with
      control := s.uplink.control ++ [⟨.mgmtResp, tag, [code, 1, BitVec.ofNat 8 n] ++ s.mgmt.stateByte⟩] }
    mgmt := { s.mgmt with refusals := put s.mgmt.refusals (n - 1) (min (look s.mgmt.refusals (n - 1) + 1) 65535) } }

/-- Spec 11: a mask of the target positions that names one from `first` on and below `last`. -/
def MaskNames (fields : List Byte) (first last : Nat) : Prop :=
  fields.length = 5 ∧ ∃ i, first ≤ i ∧ i < last ∧ (ofBe fields).testBit i = true

/-- The command code and fields that belong to a row of the table of operations (log entry 6): LOAD TABLE by its table number, SET FLAGS and
CLEAR FLAGS by the targets of the mask, the others by their code, and UNKNOWN COMMAND what no other row takes. -/
def CommandRow (c : Instr) (code : Nat) (fields : List Byte) : Prop :=
  let load (table : Byte) : Prop := code = 1 ∧ fields.head? = some table
  match c with
  | .loadBranchParameters => load 1
  | .loadStationTable => load 2
  | .loadTransactionKinds => load 3
  | .loadCurrencies => load 4
  | .loadDenominationLists => load 5
  | .loadRates => load 6
  | .loadDrawerLimits => load 7
  | .loadFormats => load 8
  | .loadAttributeBanks => load 9
  | .loadBookLayouts => load 10
  | .readTable => code = 2
  | .readStatus => code = 3
  | .setHold => code = 4 ∧ MaskNames fields 0 24
  | .clearHold => code = 5 ∧ MaskNames fields 0 24
  | .setEnable => code = 4 ∧ MaskNames fields 24 32
  | .clearEnable => code = 5 ∧ MaskNames fields 24 32
  | .setStandInEnable => code = 4 ∧ MaskNames fields 32 33
  | .clearStandInEnable => code = 5 ∧ MaskNames fields 32 33
  | .setLoopFallbackDisable => code = 4 ∧ MaskNames fields 33 34
  | .clearLoopFallbackDisable => code = 5 ∧ MaskNames fields 33 34
  | .rateRestore => (code = 4 ∨ code = 5) ∧ MaskNames fields 34 35
  | .openDay => code = 6
  | .closeDay => code = 7
  | .resendEod => code = 8
  | .setTime => code = 9
  | .saveSettings => code = 10
  | .restart => code = 11
  | .loopTestStart => code = 12
  | .loopTestStop => code = 13
  | .loadPending => code = 14
  | .clearPending => code = 15
  | .postCorrection => code = 16
  | .unknownCommand => code = 0 ∨ 16 < code
      ∨ code = 1 ∧ (∀ table, fields.head? = some table → table = 0 ∨ 10 < table.toNat)
      ∨ (code = 4 ∨ code = 5) ∧ ¬ MaskNames fields 0 35
  | _ => False

/-- Spec 11: the bytes of the fields of a command whose length is one. -/
def fieldsLength : Nat → Option Nat
  | 2 => some 2 | 3 => some 3 | 4 => some 5 | 5 => some 5 | 6 => some 9 | 7 => some 0 | 8 => some 0 | 9 => some 3
  | 10 => some 0 | 11 => some 0 | 12 => some 11 | 13 => some 1 | 15 => some 12
  | _ => none

/-- R192: what a command answered DONE leaves at the uplink: its block taken, and at the tail of the control queue the response with
the command's code, result DONE, reason none, the state byte as the part then stands, and the return. -/
def UplinkAnswered (s t : State) (tag : Nat) (c : Cmd) (ret : List Byte) : Prop :=
  t.uplink = { s.uplink.afterGood with
    control := s.uplink.control ++ [⟨.mgmtResp, tag, by1 c.code ++ [0, 0] ++ t.mgmt.stateByte ++ ret⟩] }

/-- R192, R194: a command answered DONE: its response offered, the commands-taken counter raised, and nothing in flight. -/
def AnsweredDone (s t : State) (tag : Nat) (c : Cmd) (ret : List Byte) : Prop :=
  UplinkAnswered s t tag c ret ∧ t.mgmt.taken = bump s.mgmt.taken ∧ t.mgmt.inFlight = none

/-- R194: the Management Unit but for the command in flight, the commands-taken counter and the unsaved mark. -/
def SameManagement (s t : State) : Prop :=
  t.mgmt = { s.mgmt with inFlight := t.mgmt.inFlight, taken := t.mgmt.taken, unsaved := t.mgmt.unsaved }

/-! ### Conditions on the screens -/

/-- R106: nothing of the Screen Composer differs but row 1 of the screens, the status lines, and their dirty marks. -/
def StatusLinesOnly (c d : Composer) : Prop :=
  d.bulletinText = c.bulletinText ∧ d.bulletinNumber = c.bulletinNumber ∧ d.unknownFormat = c.unknownFormat
  ∧ d.badBulletin = c.badBulletin
  ∧ ∀ (i : Nat) (h : i < 24),
      d.screens[i] = { c.screens[i] with rows := d.screens[i].rows, dirty := d.screens[i].dirty }
      ∧ ∀ (r : Nat) (hr : r < 24), r ≠ 0 →
          d.screens[i].rows[r] = c.screens[i].rows[r] ∧ d.screens[i].dirty[r] = c.screens[i].dirty[r]

/-- R106: two screens that differ in nothing but row 1, the status line, and its dirty mark. -/
def SameButStatusLine (x y : StationScreen) : Prop :=
  y = { x with rows := y.rows, dirty := y.dirty }
  ∧ ∀ r, 2 ≤ r → r ≤ 24 → y.row r = x.row r ∧ y.dirtySpan r = x.dirtySpan r

/-- R94, R96, R104: two screens whose windows, rows 2 to 23, and contexts are the same. -/
def SameWindow (x y : StationScreen) : Prop :=
  y.format = x.format ∧ y.origin = x.origin ∧ y.fields = x.fields ∧ ∀ r, 2 ≤ r → r ≤ 23 → y.row r = x.row r

/-- Nothing of the Screen Composer differs but the screens of one station. -/
def OnlyScreen (a : Nat) (c d : Composer) : Prop :=
  d.bulletinText = c.bulletinText ∧ d.bulletinNumber = c.bulletinNumber ∧ d.unknownFormat = c.unknownFormat
  ∧ d.badBulletin = c.badBulletin ∧ ∀ (i : Nat) (h : i < 24), i ≠ a - 1 → d.screens[i] = c.screens[i]

/-- R103: a completion shown at station a: with a format that is loaded the window is composed from it, and otherwise the window stays
and the result alert is in the queue; a READY is pending; an empty format that was named is counted; no other window changes. -/
def ResultShown (s t : State) (a : Nat) (format : Option (Nat × List (Nat × Text))) (alert : Alert) : Prop :=
  (t.screen a).pendingReady = true
  ∧ (∀ n f fields, format = some (n, fields) → s.tables.format n = some f →
      (t.screen a).format = some n ∧ (t.screen a).origin = f.origin ∧ (t.screen a).fields = fields
      ∧ ∀ r, 2 ≤ r → r ≤ 23 → (t.screen a).row r = windowRow s.tables f fields r)
  ∧ ((∀ n fields, format = some (n, fields) → s.tables.format n = none) →
      SameWindow (s.screen a) (t.screen a) ∧ alert ∈ (t.screen a).alerts)
  ∧ t.composer.unknownFormat = (match format with
      | some x => if s.tables.format x.1 = none then min (s.composer.unknownFormat + 1) 65535 else s.composer.unknownFormat
      | none => s.composer.unknownFormat)
  ∧ ∀ b, isStation b = true → b ≠ a →
      SameWindow (s.screen b) (t.screen b) ∧ (t.screen b).pendingReady = (s.screen b).pendingReady

/-- R105: a refusal shown at station a: the window stays, a REFUSED alert with the reason is in the queue, and a READY is pending. -/
def RefusalShown (s t : State) (a : Nat) (reason : Reason) : Prop :=
  OnlyScreen a s.composer t.composer ∧ SameWindow (s.screen a) (t.screen a)
  ∧ (t.screen a).pendingReady = true ∧ ⟨.refused, reason.number⟩ ∈ (t.screen a).alerts

/-- R8, R12, R15: the visit frames of station a have been handed back to its screen, and its status line is formed again. -/
def FramesHandedBack (s t : State) (a : Nat) : Prop :=
  SameButStatusLine ((s.station a).frames.foldl StationScreen.handBack (s.screen a)) (t.screen a)
  ∧ (t.screen a).row 1 = t.statusRow a

/-- R6: a visit in progress to a station of which `ended` holds has ended, and the scheduler has gone on to the next address; any other goes
on. The stations and the test record apart, nothing else of the loop changes. -/
def VisitsEnd (l m : Loop) (ended : Nat → Prop) : Prop :=
  (∀ v, l.visit = some v → ended v.station → m = { l with
    stations := m.stations, test := m.test, visit := none
    nextAddr := if l.nextAddr = 24 then 1 else l.nextAddr + 1
    cycle := if l.nextAddr = 24 then (l.cycle + 1) % 16 else l.cycle })
  ∧ ((∀ v, l.visit = some v → ¬ ended v.station) → m = { l with stations := m.stations, test := m.test })

/-! ### Visits and completions -/

/-- R3: what each answer that is not good comes to: whether the error window counts it (R13), and whether the visit then waits for the line
to be at mark. -/
def AnswerFails (v : Visit) (c : Instr) (counted waits : Bool) : Prop :=
  (c = .answerTimeout ∧ counted = false ∧ waits = false)
  ∨ (c = .answerMarkTimeout ∧ counted = true ∧ waits = false)
  ∨ (∃ chars, c = .unusableAnswer chars ∧
      ((classify v.station v.awaited chars = .framing ∨ classify v.station v.awaited chars = .check) ∧ counted = true ∧ waits = false
        ∨ classify v.station v.awaited chars = .firstCharacter ∧ counted = true ∧ waits = true
        ∨ classify v.station v.awaited chars = .discarded ∧ counted = false ∧ waits = false))
  ∨ (∃ report, (c = .nil report ∨ c = .alertAck report) ∧ (v.awaited ≠ .poll ∨ 2 ≤ report.toNat) ∧ counted = false ∧ waits = false)
  ∨ (∃ report body, c = .req report body ∧ (v.awaited ≠ .poll ∨ 2 ≤ report.toNat ∨ body = []) ∧ counted = false ∧ waits = false)
  ∨ (∃ report body, c = .testEcho report body ∧
      (v.awaited = .poll ∨ 2 ≤ report.toNat ∨ ∃ x, v.awaited = .test x ∧ body.length ≠ x.length) ∧ counted = false ∧ waits = false)

/-- R78, R79, R81: drawer d with its position formed afresh and its limit state evaluated. -/
def Drawer.reckoned (t : Tables) (d : Nat) (x : Drawer) : Drawer :=
  { x with
    position := (t.position x).1, overflow := x.overflow || (t.position x).2
    limit := evalLimit (t.limit d) x.limit (t.position x).1 }

/-- R173: a notice that the entry's drawer is free has no effect: the day is not CLOSING, or its drawer is not close-pending. -/
def NoForceClose (s : State) (e : OutEntry) : Prop :=
  s.day.state ≠ .closing ∨ ∀ d, e.drawer = some d → d ∉ s.day.closePending

/-- R52, R54, R74, R159: entry e has completed with a result that posts nothing. It has left the table; its OUT legs are no longer reserved;
where they are in doubt the station's unanswered record is the entry's; one entry is written to the journal; the result is shown. -/
def EndedUnposted (s t : State) (e : OutEntry) (result : Result) (reply : Option Reply) (inDoubt : Bool) : Prop :=
  t.router.table = s.router.table.filter (fun x => x.tag ≠ e.tag)
  ∧ t.router = { s.router with table := t.router.table, unanswered := t.router.unanswered, counters := t.router.counters }
  ∧ t.router.unanswered = (if inDoubt = true ∧ outLegs e.legs ≠ [] then put s.router.unanswered (e.station - 1) (some e.unanswered)
      else s.router.unanswered)
  ∧ (∀ d, isDrawer d = true → t.drawer d =
      if e.drawer = some d then (outLegs e.legs).foldl (fun x l => x.unreserve l) (s.drawer d) else s.drawer d)
  ∧ t.journal.counter = s.journal.counter + 1
  ∧ t.journal.entries = s.journal.entries ++ [{ JEntry.ofKind (if result = .mismatch then .mismatch else .transaction) with
      sequence := s.journal.counter + 1, time := s.mgmt.clock, station := some e.station
      teller := (s.station e.station).teller, drawer := e.drawer, txKind := some e.kind, account := e.account
      result := some result, reason := if result = .declined then reply.bind Reply.reason else none
      legs := unpostedLegs inDoubt e.legs, reference := reply.bind Reply.reference }]
  ∧ (isStation e.station = true → ResultShown s t e.station
      (if result = .declined then reply.bind fun r => r.format.map fun n => (n, r.data) else none)
      (resultAlert result (reply.bind Reply.reason) (inDoubt && outLegs e.legs != []) (s.journal.counter + 1)))

/-- R52, R159: the journal entry of entry e completed LINK LOST: its legs are not posted, and its OUT legs are in doubt when it was SENT. -/
def State.linkLostEntry (s : State) (e : OutEntry) (sequence : Nat) : JEntry :=
  { JEntry.ofKind .transaction with
    sequence, time := s.mgmt.clock, station := some e.station, teller := (s.station e.station).teller, drawer := e.drawer
    txKind := some e.kind, account := e.account, result := some .linkLost, legs := unpostedLegs (decide (e.state = .sent)) e.legs }

/-- R54, R56: entry e was SENT with an OUT leg, so that its LINK LOST completion is in doubt. -/
def OutEntry.lostInDoubt (e : OutEntry) : Bool := decide (e.state = .sent) && decide (outLegs e.legs ≠ [])

/-- R56, R74: drawer d with the OUT legs of every station's outstanding entry at it released. -/
def State.released (s : State) (d : Nat) : Drawer :=
  (s.router.stationEntries.filter fun e => e.drawer = some d).foldl
    (fun x e => (outLegs e.legs).foldl (fun x l => x.unreserve l) x) (s.drawer d)

/-- R173: drawer d, close-pending in CLOSING, is left free by the LINK LOST completions. -/
def State.freedByLoss (s : State) (d : Nat) : Prop :=
  s.day.state = .closing ∧ d ∈ s.day.closePending ∧ (s.drawer d).isOpen = true ∧ (s.released d).hasReserved = false
  ∧ ∃ e ∈ s.router.stationEntries, e.drawer = some d ∧ outLegs e.legs ≠ []

/-- R10: the state in which the answer of station a is acted on: an ABSENT station has returned, SIGNED if it holds a teller ID and else
PRESENT. -/
def State.answering (s : State) (a : Nat) : State :=
  if (s.station a).state = .absent then
    s.onStation a fun r => { r with state := if r.teller.isSome then .signed else .present }
  else s

/-- R8, R10: a good answer to a POLL, its frame refused indication clear or set, from a PRESENT, SIGNED or ABSENT station. -/
def AnswersPoll (s : State) (v : Visit) (report : Byte) : Prop :=
  s.loop.visit = some v ∧ v.markWait = false ∧ v.awaited = .poll ∧ isStation v.station = true ∧ report.toNat < 2
  ∧ ((s.station v.station).state = .present ∨ (s.station v.station).state = .signed ∨ (s.station v.station).state = .absent)

/-- R41, R42, R44: station a, at a POLL, sends a request that passes intake. -/
def PassesIntake (s : State) (v : Visit) (report : Byte) (body : List Byte) (r : Request) (k : KindEntry) : Prop :=
  AnswersPoll s v report ∧ body ≠ [] ∧ readRequest body = some r ∧ (s.answering v.station).intakeReason v.station r = none
  ∧ s.tables.kind r.kind = some k

/-! ### Drawers force-closed, and the freeze -/

/-- R86: the currencies that leave drawer d unbalanced when it is closed; drawer 0 is not judged. -/
def State.closeCauses (s : State) (d : Nat) : List Nat := if d = 0 then [] else (s.drawer d).unbalancedCurrencies s.tables

/-- R86, R161, R172: the drawers `ds` have been force-closed, in this order. Each is CLOSED, and UNBALANCED where a currency causes it; one
DRAWER CLOSED entry is written for each for which there is room, and for each of the others the omitted count has risen. -/
def ForceClosed (s t : State) (ds : List Nat) : Prop :=
  let room := Config.journalCapacity - roomInUse s.journal s.router
  (∀ d, isDrawer d = true → t.drawer d = if d ∈ ds then
      { s.drawer d with isOpen := false, unbalanced := (s.drawer d).unbalanced || s.closeCauses d != [] } else s.drawer d)
  ∧ t.journal = { s.journal with
      entries := s.journal.entries ++ (ds.take room).mapIdx fun i d => { JEntry.ofKind .drawerClosed with
        sequence := s.journal.counter + 1 + i, time := s.mgmt.clock, drawer := some d
        detail := some (.closed (s.closeCauses d != []) (s.closeCauses d)) }
      counter := s.journal.counter + (ds.take room).length
      omitted := if ds.length ≤ room then s.journal.omitted else min (s.journal.omitted + (ds.length - room)) 65535
      warning := t.journal.warning }

/-- R176: drawer x moved or holds something that the batch reports. -/
def Drawer.Reportable (x : Drawer) : Prop :=
  x.baseIn ≠ 0 ∨ x.baseOut ≠ 0 ∨ x.standIn ≠ 0 ∨ x.overflow = true ∨ x.unbalanced = true
  ∨ ∃ h ∈ x.currencies.toList, (∃ p ∈ h.pieces, p.onHand ≠ 0) ∨ h.dayIn ≠ 0 ∨ h.dayOut ≠ 0 ∨ h.rounding ≠ 0 ∨ h.balance ≠ none

/-- R176: the number of the first segment of a section in a batch; 0 where the section is empty. -/
def firstOf (batch : List Segment) (sec : Section) : Nat :=
  match batch.findIdx? fun x => x.sec = sec with
  | some i => i + 1
  | none => 0

/-- R175, R176: the description fixed at a freeze is of the records as state t holds them: the drawers that moved or hold something, in
order, the counts, and the number of the first segment of each section, 0 where the section is empty. -/
def FreezeDesc.Describes (f : FreezeDesc) (t : State) : Prop :=
  f.branch = t.params.branch ∧ f.date = t.day.date.getD [] ∧ f.time = t.mgmt.clock
  ∧ f.entries = t.journal.entries.length ∧ f.lines = t.passbook.lineCount ∧ f.accounts = t.passbook.accountCount
  ∧ f.drawers.Pairwise (· < ·) ∧ (∀ d, d ∈ f.drawers ↔ isDrawer d = true ∧ (t.drawer d).Reportable)
  ∧ f.segments = (t.batch f).length ∧ f.trailer = f.segments
  ∧ f.firstDrawer = firstOf (t.batch f) .drawer ∧ f.firstJournal = firstOf (t.batch f) .journal
  ∧ f.firstPending = firstOf (t.batch f) .pending ∧ f.trailer = firstOf (t.batch f) .trailer

/-! ### Printer ports -/

/-- R118 to R120, R122: what aborts the dialogue at port p: a phase code that names no phase, a status byte that is none of the three, and at
CLOSE-IN no status byte taken, a GOOD return that does not fit its order, or a SENSE that closes CHECK. -/
def DialogueAborts (s : State) (p : Nat) (c : Instr) : Prop :=
  (∃ code, c = .phaseRequest p code ∧ phaseOf code = none ∧ (s.port p).dialogue.attended = true)
  ∨ ∃ byte, c = .byteRequest p byte ∧
      ((s.port p).dialogue = .stateIn ∧ byte ≠ 0x00 ∧ byte ≠ 0x02 ∧ byte ≠ 0x08
        ∨ (s.port p).dialogue = .closeIn ∧
          ((s.port p).status = none
            ∨ (s.port p).status = some 0x00
              ∧ returnFits (s.port p).carried.kind (s.port p).returned (s.port p).overlong = false
            ∨ (s.port p).status = some 0x02 ∧ (s.port p).sensing = true))

/-- R117 to R122, R130: command c ends the order of a kind that the Passbook Line Manager gave at port p, with this outcome. -/
def OrderEnds (s : State) (p : Nat) (c : Instr) (kind : OrderKind) (o : OrderOutcome) : Prop :=
  isPort p = true ∧ (s.port p).claimed = true ∧ (s.port p).poll = false ∧ (s.port p).order.map Order.kind = some kind
  ∧ ((c = .selectTimer p ∧ (s.port p).dialogue = .selecting ∧ (s.port p).selectTimer ≠ none ∧ o = .noAnswer)
    ∨ (c = .phaseStepTimer p ∧ (s.port p).dialogue.attended = true ∧ (s.port p).stepTimer ≠ none ∧ o = .aborted)
    ∨ (DialogueAborts s p c ∧ o = .aborted)
    ∨ ∃ byte, c = .byteRequest p byte ∧ (s.port p).dialogue = .closeIn ∧
        ((s.port p).status = some 0x00 ∧ (s.port p).sensing = false
            ∧ returnFits kind (s.port p).returned (s.port p).overlong = true ∧ o = .good (s.port p).returned
          ∨ (s.port p).status = some 0x00 ∧ (s.port p).sensing = true ∧ (s.port p).overlong = false
            ∧ (∃ k, readSense (s.port p).returned = some k ∧ o = .check k)
          ∨ (s.port p).status = some 0x08 ∧ o = .busyLimit
            ∧ ((s.port p).sensing = false ∧ 6 ≤ (s.port p).attempts ∨ (s.port p).sensing = true ∧ 6 ≤ (s.port p).senseAttempts)))

/-- R130: the claim of port p has been released: NOT READY where readiness was lost, ATTENTION where a reason stands, IDLE otherwise. -/
def ClaimReleased (s t : State) (p : Nat) (o : OrderOutcome) : Prop :=
  (t.port p).claimed = false
  ∧ ((s.port p).readinessLost = true ∨ o = .noAnswer ∨ o = .aborted → (t.port p).state = .notReady)
  ∧ ((s.port p).readinessLost = false → o ≠ .noAnswer → o ≠ .aborted →
      (t.port p).state = if (t.port p).attention = .none then .idle else .attention)

/-- R145, R147, R148, R150: the job of port p is ENDING and has been given its EJECT; the ending alert, if there is one, is with the stations
that name the port. -/
def JobEnding (s t : State) (p : Nat) (j : Job) (alert : Option Alert) : Prop :=
  t.job p = some { j with state := .ending, endAlert := alert, ejecting := true }
  ∧ (t.port p).order = some (Order.plain .eject) ∧ (t.port p).claimed = true
  ∧ ∀ al, alert = some al → ∀ a ∈ s.stationsOfPort p, al ∈ (t.screen a).alerts

/-- R146: the job of port p is PRINTING and has been given its next order: SET LAYOUT when the layout loaded is not that of its book type, and
otherwise PRINT LINE of the oldest line of its account, which is marked in print. `store` is the store as the order finds it. -/
def NextOrderGiven (s t : State) (p : Nat) (j : Job) (x : Stripe) (store : Passbook) : Prop :=
  ∀ b l rest, s.tables.layout x.bookType = some b → store.linesOf x.account = l :: rest →
    (t.port p).claimed = true
    ∧ ((t.port p).loaded ≠ some x.bookType → t.job p = some j ∧ t.passbook.slots = store.slots
        ∧ (t.port p).order = some (Order.make .setLayout x.bookType (by1 x.bookType ++ encGeometry b) []))
    ∧ ((t.port p).loaded = some x.bookType → t.job p = some { j with inPrint := some l.reference }
        ∧ t.passbook.slots = (store.markLine x.account l.reference true).slots
        ∧ (t.port p).order = some (Order.make .printLine 0 (by1 (b.usable.getD j.u 0))
            (encText (lineText s.tables b l)
              ++ encStripe { x with page := j.page, u := j.u + 1, check := checkDigit { x with page := j.page, u := j.u + 1 } })))

/-- R150: the failure table for an order of port p other than EJECT. -/
def JobFails (s t : State) (p : Nat) (j : Job) (kind : OrderKind) (o : OrderOutcome) : Prop :=
  (t.passbook.counters.failedJobs = min (s.passbook.counters.failedJobs + 1) 65535)
  ∧ (o = .busyLimit → t.job p = none ∧ ClaimReleased s t p o
      ∧ ∀ a ∈ s.stationsOfPort p, ⟨.printerBusy, p⟩ ∈ (t.screen a).alerts)
  ∧ ∀ k, o = .check k →
      (k.sense = .noBook → t.job p = none ∧ ClaimReleased s t p o ∧ (t.port p).bookSeen = false)
      ∧ (kind = .readStripe → k.sense = .stripeUnreadable →
          t.passbook.counters.stripeBad = min (s.passbook.counters.stripeBad + 1) 65535
          ∧ JobEnding s t p { j with failed := true } (some ⟨.stripeInvalid, p⟩))
      ∧ (k.sense ≠ .noBook → ¬ (kind = .readStripe ∧ k.sense = .stripeUnreadable) →
          JobEnding s t p { j with failed := true } none)

/-! ### The pending line store -/

/-- R140, steps 2 to 4: what keeps a line that is no duplicate from being recorded: its amount or its balance out of range, the magnitudes of
its account's amounts, or an account not in the index with no slot free. -/
def Passbook.CannotRecord (b : Passbook) (l : LineIn) : Prop :=
  Config.maxAmount < l.amount.natAbs ∨ Config.maxTotal < l.balance.natAbs
  ∨ (∃ i x, b.find l.account = some (i, x)
      ∧ Config.maxLineAmount < (x.lines.map fun p => p.amount.natAbs).sum + l.amount.natAbs)
  ∨ (b.find l.account = none ∧ ∀ i, i < 512 → look b.slots i ≠ none)

/-- R139: the lowest free slot. -/
def Passbook.LowestFree (b : Passbook) (i : Nat) : Prop :=
  i < 512 ∧ look b.slots i = none ∧ ∀ j, j < i → look b.slots j ≠ none

/-- R142: the lowest slot that holds the most lines. -/
def Passbook.Fullest (b : Passbook) (i : Nat) (x : Account) : Prop :=
  look b.slots i = some x ∧ ∀ j y, look b.slots j = some y →
    y.lines.length ≤ x.lines.length ∧ (j < i → y.lines.length < x.lines.length)

/-- R142: the account that is summarised to make room in a full store for a line of `account`: its own when two of its lines may be merged, else
the fullest. -/
def Passbook.MakesRoom (b : Passbook) (account : Text) (j : Nat) (y : Account) : Prop :=
  b.find account = some (j, y) ∧ 2 ≤ mergeableCount y.lines
  ∨ (∀ i x, b.find account = some (i, x) → mergeableCount x.lines < 2) ∧ b.Fullest j y

/-- R141: the oldest k mergeable lines have been replaced by one summary line in their place. -/
def LinesMerged (k : Nat) (before after : List PLine) : Prop :=
  ∃ printing old rest newest, before = printing ++ old ++ rest ∧ old.length = k ∧ old.getLast? = some newest
    ∧ (∀ l ∈ printing, l.inPrint = true) ∧ (∀ l ∈ old, l.inPrint = false)
    ∧ after = printing ++ { reference := newest.reference, date := newest.date, description := [], amount := (old.map PLine.amount).sum
                            balance := newest.balance, items := min (old.map PLine.items).sum 9999, kind := .summary
                            inPrint := false } :: rest

/-! ### Invariants -/

/-- R24, R25, R33: the receive queue and the data queue within their capacities; the control queue holds SYNCs, one at most, and MGMT
RESPs, which with the command in flight are 3 at most. -/
def QueuesFit (s : State) : Prop :=
  s.uplink.rx.length ≤ Config.receiveCapacity ∧ s.uplink.data.length ≤ Config.dataCapacity
  ∧ (∀ b ∈ s.uplink.control, b.cls = .sync ∨ b.cls = .mgmtResp)
  ∧ (s.uplink.control.filter fun b => b.cls = .sync).length ≤ 1
  ∧ s.responsesOwed ≤ 3

/-- R157, R162: the entries run from sequence 1 without a gap, the counter is their number, and the UNFORWARDED count is right. -/
def Journal.Sound (j : Journal) : Prop :=
  j.counter = j.entries.length
  ∧ (∀ (i : Nat) (h : i < j.entries.length), j.entries[i].sequence = i + 1)
  ∧ j.unforwarded = (j.entries.filter fun e => e.forward = .unforwarded).length

/-- R199, R200: the clock is a time of day, it stands at 0 while its set mark is clear, and the settings memory has its canonical
form. -/
def Mgmt.Sound (m : Mgmt) : Prop :=
  m.clock ≤ 86399 ∧ (m.clockSet = false → m.clock = 0) ∧ Memory.wf m.memory = true

/-- R4, R6, R47, R160: the loop visits stations of the loop; an entry of a station is tagged with that station and no station has two; the
forward entries are tagged 0 and are 4 at most; the journal's entries and the stations' outstanding ones are 16,384 at most. That the
tags of two forward entries differ rests on their deadlines, and is no part of this. -/
def TableFits (s : State) : Prop :=
  isStation s.loop.nextAddr = true ∧ (∀ v, s.loop.visit = some v → isStation v.station = true)
  ∧ (∀ e ∈ s.router.stationEntries, e.tag.station = e.station ∧ isStation e.station = true)
  ∧ (s.router.stationEntries.map OutEntry.station).Nodup
  ∧ (∀ e ∈ s.router.forwardEntries, e.tag.station = 0) ∧ s.router.forwardEntries.length ≤ Config.forwardEntries
  ∧ roomInUse s.journal s.router ≤ Config.journalCapacity

/-- R73: the pieces of denomination i of currency c that the stations' outstanding entries reserve in drawer d. -/
def Router.reservedIn (r : Router) (d c i : Nat) : Nat :=
  ((r.stationEntries.filter fun e => e.drawer = some d).map fun e =>
    ((outLegs e.legs).map fun l =>
      if l.currency = c then ((l.pairs.filter fun p => p.denom = i).map Pair.count).sum else 0).sum).sum

/-- R69, R73: every drawer holds one count for each denomination; an on-hand count is 9,999,999 at most, and a reserved count is at most
the on-hand one and is the sum over the outstanding entries. -/
def DrawersFit (s : State) : Prop :=
  ∀ d c, isDrawer d = true → c < 12 →
    (look (s.drawer d).currencies c).pieces.length = (s.tables.denom c).length
    ∧ ∀ i p, (look (s.drawer d).currencies c).pieces[i]? = some p →
        p.onHand ≤ Config.maxPieces ∧ p.reserved ≤ p.onHand ∧ p.reserved = s.router.reservedIn d c i

/-- R139, R140: the store holds 2,048 lines at most. An account in the index has a line, stands in one slot, and the magnitudes of its
amounts stay within their field; no reference stands twice; and only the oldest line of an account is in print. -/
def Passbook.Sound (b : Passbook) : Prop :=
  b.lineCount ≤ Config.storeCapacity
  ∧ (∀ i x, look b.slots i = some x →
      x.lines ≠ [] ∧ (x.lines.map PLine.reference).Nodup ∧ (∀ l ∈ x.lines.drop 1, l.inPrint = false)
      ∧ (x.lines.map fun l => l.amount.natAbs).sum ≤ Config.maxLineAmount)
  ∧ ∀ i j x y, i ≠ j → look b.slots i = some x → look b.slots j = some y →
      x.account ≠ y.account ∧ ∀ l ∈ x.lines, ∀ m ∈ y.lines, l.reference ≠ m.reference

/-- R180 to R183, R186: base and pointer lie between 1 and N + 1 and pointer is not below base; highest sent is N at most, no lower than
base - 1 and below base + 4, so that 4 segments at most are sent and unacknowledged; the retries are 8 at most, and fewer while the
attempt goes on; the timer runs only in SENDING, and only then are segments below the pointer queued or being sent. A day that has not
begun an attempt has the sender cleared, and a frozen one its description. -/
def SenderFits (s : State) : Prop :=
  1 ≤ s.day.base ∧ s.day.base ≤ s.day.pointer ∧ s.day.pointer ≤ s.day.segments + 1 ∧ s.day.pointer ≤ s.day.base + Config.sendWindow
  ∧ s.day.highest ≤ s.day.segments ∧ s.day.base ≤ s.day.highest + 1 ∧ s.day.highest < s.day.base + Config.sendWindow
  ∧ s.day.retries ≤ Config.sendRetries
  ∧ (s.day.state = .sending ∨ s.day.state = .suspended → s.day.retries < Config.sendRetries)
  ∧ (s.day.timer ≠ none → s.day.state = .sending)
  ∧ (s.day.state = .noDay ∨ s.day.state = .opened ∨ s.day.state = .closing ∨ s.day.state = .closed →
      s.day.pointer = 1 ∧ s.day.highest = 0)
  ∧ (s.day.state.frozen = true → s.day.freeze.isSome = true)
  ∧ (∀ b ∈ s.uplink.data, b.cls = .eodSeg → s.day.state = .sending ∧ b.tag < s.day.pointer)
  ∧ ∀ x, s.uplink.sending = some x → x.broken = false → x.block.cls = .eodSeg →
      s.day.state = .sending ∧ x.block.tag < s.day.pointer

/-! ### The link-lost event -/

/-- R56, R173, R187: the link-lost event beyond the uplink. Each station's outstanding entry completes LINK LOST, in order of acceptance: its OUT
legs are released and one journal entry is written for it; where it was SENT its OUT legs are in doubt and it is the station's unanswered
record; the result alert and a READY are on its screen. The forward entries leave the table and their journal entries stay as they are. A
drawer of the close-pending set that this leaves free is closed, and only such closings come between the LINK LOST entries. A SENDING day
is SUSPENDED with its timer stopped and its pointer at base. -/
def LinkLost (s t : State) : Prop :=
  let lost := s.router.stationEntries
  let written := t.journal.entries.drop s.journal.entries.length
  let completed := written.filter fun x => x.kind = .transaction
  t = { s with carrier := t.carrier, uplink := t.uplink, router := t.router, drawers := t.drawers, journal := t.journal, day := t.day
               composer := t.composer }
  ∧ t.router = { s.router with table := [], unanswered := t.router.unanswered }
  ∧ t.day = (if s.day.state = .sending then { s.day with
        state := .suspended, timer := none, pointer := s.day.base
        counters := { s.day.counters with losses := min (s.day.counters.losses + 1) 65535 } }
      else { s.day with closePending := t.day.closePending })
  ∧ (∀ d, isDrawer d = true → (d ∈ t.day.closePending ↔ d ∈ s.day.closePending ∧ ¬ s.freedByLoss d))
  ∧ (∀ d, isDrawer d = true →
      (s.freedByLoss d → t.drawer d = { s.released d with isOpen := false, unbalanced := (s.drawer d).unbalanced || s.closeCauses d != [] })
      ∧ (¬ s.freedByLoss d → t.drawer d = s.released d))
  ∧ t.journal.entries = s.journal.entries ++ written
  ∧ (∀ x ∈ written, x.kind = .transaction ∨ s.day.state = .closing ∧ x.kind = .drawerClosed)
  ∧ (∀ i x, written[i]? = some x → x.sequence = s.journal.counter + 1 + i)
  ∧ t.journal.counter = s.journal.counter + written.length ∧ t.journal.unforwarded = s.journal.unforwarded
  ∧ (s.day.state ≠ .closing → t.journal.omitted = s.journal.omitted)
  ∧ completed.length = lost.length
  ∧ (∀ p ∈ lost.zip completed, p.2 = s.linkLostEntry p.1 p.2.sequence)
  ∧ t.composer = { s.composer with screens := t.composer.screens }
  ∧ (TableFits s →
      (∀ p ∈ lost.zip completed,
        look t.router.unanswered (p.1.station - 1)
          = (if p.1.lostInDoubt = true then some p.1.unanswered else look s.router.unanswered (p.1.station - 1))
        ∧ SameWindow (s.screen p.1.station) (t.screen p.1.station) ∧ (t.screen p.1.station).pendingReady = true
        ∧ ⟨if p.1.lostInDoubt = true then .linkLostInDoubt else .linkLost, p.2.sequence⟩ ∈ (t.screen p.1.station).alerts)
      ∧ ∀ a, isStation a = true → (∀ e ∈ lost, e.station ≠ a) →
          look t.router.unanswered (a - 1) = look s.router.unanswered (a - 1) ∧ SameButStatusLine (s.screen a) (t.screen a))

/-! ### The warm start (R203) -/

/-- R38: the uplink after a warm start: its queues empty, nothing running, and with carrier present the first attempt in SYNC begun at the
rate of the branch parameters. -/
def Uplink.afterWarm (carrier : Bool) (rate : LineRate) (u : Uplink) : Uplink :=
  let down := { u.afterDown true with syncFailures := 0, burstBlocks := 0, burstBad := 0 }
  if carrier = true then
    { down with link := .sync, rate, attemptTimer := some 5000, syncTimer := some 250, control := [⟨.sync, 0, []⟩] }
  else down

/-- R20: the loop after a warm start: every station ABSENT, a SIGNED one keeping its teller ID, and one that is ABSENT already too
(assumption 33); no visit and no test; the first cycle to begin at address 1. -/
def WarmLoop (l m : Loop) : Prop :=
  m = { l with stations := m.stations, goodCount := 0, failCount := 0, cycle := 0, nextAddr := 1, visit := none, test := none }
  ∧ ∀ (i : Nat) (h : i < 24), m.stations[i] = {
      state := .absent, misses := 0, frames := []
      teller := if l.stations[i].state = .signed ∨ l.stations[i].state = .absent then l.stations[i].teller else none }

/-- R116, R125, R134: port x after a warm start: no dialogue, order, poll or claim, and its layout not known. At a port that is not DISABLED
the reset pulse begins, afresh where one runs (assumption 50); one that is FAILED stays so, and any other is NOT READY with its ready wait
running and its first STATUS REQUEST due. -/
def Port.afterWarm (x : Port) : Port :=
  let quiet : Port := { x with
    dialogue := .none, selectTimer := none, stepTimer := none, retryTimer := none, due := false, byteOut := none, order := none
    poll := false, sensing := false, attempts := 0, senseAttempts := 0, readyTimer := none, pollTimer := none, claimed := false
    loaded := none }
  if x.state = .disabled then quiet
  else if x.state = .failed then { quiet with pulseTimer := some 10 }
  else { quiet with
    state := .notReady, pulseTimer := some 10, bookSeen := false, attention := .none, readinessLost := false, readyTimer := some 10000
    order := some (Order.plain .statusRequest), poll := true, due := true }

/-- R146: the account and the reference of the line in print in the job of port p. -/
def State.lineInPrint (s : State) (p : Nat) : Option (Text × Text) :=
  match s.job p with
  | some j => j.stripe.bind fun r => j.inPrint.map fun n => (r.account, n)
  | none => none

/-- R156: the Passbook Line Manager after a warm start: no job; in NO DAY, OPEN and CLOSING the lines in print lose their mark and stay in
their place; in the frozen states they keep it, and the settlement of a port that holds none becomes not printed. -/
def WarmPassbook (s t : State) : Prop :=
  t.passbook = { s.passbook with slots := t.passbook.slots, jobs := Vector.replicate 8 none, settlements := t.passbook.settlements }
  ∧ (s.day.state.frozen = true → t.passbook.slots = s.passbook.slots
      ∧ ∀ p, isPort p = true → look t.passbook.settlements (p - 1) = (match look s.passbook.settlements (p - 1) with
          | some x => some x
          | none => (s.lineInPrint p).map fun x => ⟨x.1, x.2, false⟩))
  ∧ (s.day.state.frozen = false → t.passbook.settlements = s.passbook.settlements
      ∧ (∀ i, look s.passbook.slots i = none → look t.passbook.slots i = none)
      ∧ (s.passbook.Sound → ∀ i x, look s.passbook.slots i = some x → look t.passbook.slots i = some { x with
          lines := x.lines.map fun l =>
            if (List.range' 1 8).any fun p => s.lineInPrint p = some (x.account, l.reference) then { l with inPrint := false } else l }))

/-- R65, R115: the Screen Composer after a warm start. Rows 2 to 23 of every screen are blank, its context is cleared, a READY is pending, and
the dirty marks are as the blanking makes them; its alert queue is empty but for the LINK LOST result of its own request, and row 24
shows the queue's head; the status line is formed again; the bulletin and the counters stay. -/
def WarmScreens (s t : State) : Prop :=
  t.composer = { s.composer with screens := t.composer.screens }
  ∧ (∀ a, isStation a = true →
      (t.screen a).format = none ∧ (t.screen a).origin = 2 ∧ (t.screen a).fields = [] ∧ (t.screen a).pendingReady = true
      ∧ (t.screen a).alertsLost = (s.screen a).alertsLost ∧ (t.screen a).row 1 = t.statusRow a
      ∧ (t.screen a).row 24 = alertRow s.composer.bulletinText (t.screen a).alerts
      ∧ (∀ r, 2 ≤ r → r ≤ 23 → (t.screen a).row r = blankRow
          ∧ (t.screen a).dirtySpan r = ((s.screen a).writeRow r blankRow).dirtySpan r)
      ∧ ((∀ e ∈ s.router.stationEntries, e.station ≠ a) → (t.screen a).alerts = []))
  ∧ (TableFits s → ∀ i e, s.router.stationEntries[i]? = some e →
      (t.screen e.station).alerts =
        [⟨if e.lostInDoubt = true then .linkLostInDoubt else .linkLost, s.journal.counter + 1 + i⟩])

/-- R161, R167, R204: what becomes of the RESTART entry: none is offered when the day is frozen, and one for which there is no room is
omitted. -/
def State.restartOutcome (s : State) : RestartEntry :=
  if s.day.state.frozen = true then .notOffered
  else if roomInUse s.journal s.router < Config.journalCapacity then
    .written (s.journal.counter + s.router.stationEntries.length + 1)
  else .omitted

/-- R65, R93, R167: the records after the completions of the warm start and the RESTART entry, before the notices are acted on: no request is
outstanding, the OUT legs are released, and the journal has a LINK LOST entry for each request, in order of acceptance, and then the
RESTART entry. `loop` is the loop as the warm start leaves it, for the teller of each entry. -/
def State.warmRecords (s : State) (loop : Loop) : State :=
  let lost := s.router.stationEntries
  let restart : List JEntry := match s.restartOutcome with
    | .written n => [{ JEntry.ofKind .restart with
        sequence := n, time := s.mgmt.clock, detail := some (.restart s.day.state lost.length) }]
    | _ => []
  { s with
    router := { s.router with table := [] }
    drawers := Vector.ofFn fun d => s.released d.val
    journal := { s.journal with
      entries := s.journal.entries
        ++ lost.mapIdx (fun i e => { s with loop := loop }.linkLostEntry e (s.journal.counter + 1 + i)) ++ restart
      counter := s.journal.counter + lost.length + restart.length
      omitted := if s.restartOutcome = .omitted then min (s.journal.omitted + 1) 65535 else s.journal.omitted } }

/-- R54, R65, R191: the records and the day after a warm start. Beyond `State.warmRecords`, in CLOSING the drawers of the close-pending set
are closed, first those that the releases left free and then the others in drawer order, and the day is frozen; a SENDING day is SUSPENDED
with its pointer at base; in any other state the timer is stopped. A request that was SENT with an OUT leg is its station's unanswered
record. -/
def WarmDay (s t : State) : Prop :=
  let lost := s.router.stationEntries
  (∃ freed rest, ForceClosed (s.warmRecords t.loop) t (freed ++ rest) ∧ freed.Nodup
      ∧ (∀ d, d ∈ freed ↔ isDrawer d = true ∧ s.freedByLoss d) ∧ rest.Pairwise (· < ·)
      ∧ ∀ d, d ∈ rest ↔ isDrawer d = true ∧ s.day.state = .closing ∧ d ∈ s.day.closePending ∧ ¬ s.freedByLoss d)
  ∧ (DrawersFit s → ∀ d, isDrawer d = true → (t.drawer d).hasReserved = false)
  ∧ t.router = { s.router with table := [], unanswered := t.router.unanswered }
  ∧ (TableFits s →
      (∀ e ∈ lost, look t.router.unanswered (e.station - 1)
        = if e.lostInDoubt = true then some e.unanswered else look s.router.unanswered (e.station - 1))
      ∧ ∀ a, isStation a = true → (∀ e ∈ lost, e.station ≠ a) →
          look t.router.unanswered (a - 1) = look s.router.unanswered (a - 1))
  ∧ (s.day.state = .closing → ∃ f, f.Describes t ∧ t.day = { s.day with
      state := .closed, timer := none, freeze := some f
      closePending := s.day.closePending.filter fun d => isDrawer d = false })
  ∧ (s.day.state = .sending → t.day = { s.day with state := .suspended, pointer := s.day.base, timer := none })
  ∧ (s.day.state ≠ .closing → s.day.state ≠ .sending → t.day = { s.day with timer := none })

/-- R203: the warm start, block by block; the tables, CARRIER, the phase and the waiting commands stay. -/
def WarmStarted (s t : State) : Prop :=
  t = { s with uplink := t.uplink, loop := t.loop, ports := t.ports, passbook := t.passbook, composer := t.composer, router := t.router
               drawers := t.drawers, journal := t.journal, day := t.day, mgmt := t.mgmt }
  ∧ t.uplink = s.uplink.afterGood.afterWarm s.carrier s.params.uplinkRate
  ∧ WarmLoop s.loop t.loop ∧ (∀ p, isPort p = true → t.port p = (s.port p).afterWarm)
  ∧ WarmPassbook s t ∧ WarmScreens s t ∧ WarmDay s t

/-! ### Tables that pass their owners' tests -/

/-- R97: a field entry whose source suits its kind. -/
def FieldEntry.sourced (e : FieldEntry) : Bool :=
  match e.kind, e.source with
  | .literal, .literal _ => true
  | .literal, .field _ => false
  | _, .field _ => true
  | _, .literal _ => false

/-- R195, R200: tables 1 to 10 as loads leave them: each entry passes its owner's BAD VALUE tests, codes of currencies differ, entry 0
of the currencies is loaded when any is, and a denomination list belongs to a loaded currency. -/
def Tables.Sound (t : Tables) : Prop :=
  paramsOk t.params = true ∧ t.params.branch < 65536
  ∧ (∀ a, 1 ≤ a → a ≤ 24 → stationEntryOk (t.station a) = true)
  ∧ (∀ k e, t.kind k = some e → kindEntryOk e = true)
  ∧ (∀ c x, t.currency c = some x → currencyOk x = true ∧ (t.currency 0).isSome = true)
  ∧ (∀ c d x y, t.currency c = some x → t.currency d = some y → x.letters = y.letters → c = d)
  ∧ (∀ c, denomsOk (t.denom c) = true ∧ (t.denom c ≠ [] → (t.currency c).isSome = true))
  ∧ (∀ c, c < 12 → rateOk c (t.rate c) = true)
  ∧ (∀ d, d < 17 → limitsOk (t.limit d) = true)
  ∧ (∀ n f, t.format n = some f →
      formatOk f = true ∧ f.entries.all FieldEntry.sourced = true ∧ f = Format.make f.origin f.entries)
  ∧ (∀ k b, t.layout k = some b → layoutOk b = true)

end Sys2Proof.Machine
end

