-- ==== Sys2Proof/Certificates/Slice0/Obligations.lean ====
section
/-! DEFINITION. The statements for the provers, from the numbered rules of the spec. `t` is the next state; a field of the state that a
statement does not let change is written as unchanged. -/

open Sys2Proof Sys2Proof.Machine

/-! ### The machine as a whole -/

/-- A step with a command at the front of the queue is that command's meaning on the state with the queue's rest. -/
def Obligations.StepRunsFrontCommand : Prop :=
  ∀ (c : Instr) (rest : List Instr) (s : State), s.pending = c :: rest → step s = exec c { s with pending := rest }

/-- The model's choice (log entry 1): on an empty queue one millisecond passes at every running timer, and nothing else changes. -/
def Obligations.EmptyQueueTicks : Prop :=
  ∀ s : State, s.pending = [] → ∃ t, step s = .next t
    ∧ t = { s with uplink := t.uplink, ports := t.ports, router := t.router, day := t.day, mgmt := t.mgmt }
    ∧ t.uplink = { s.uplink with
        attemptTimer := s.uplink.attemptTimer.map (· - 1), syncTimer := s.uplink.syncTimer.map (· - 1)
        keepAliveTimer := s.uplink.keepAliveTimer.map (· - 1), silenceTimer := s.uplink.silenceTimer.map (· - 1)
        recoveryTimer := s.uplink.recoveryTimer.map (· - 1), holdTimer := s.uplink.holdTimer.map (· - 1) }
    ∧ t.router = { s.router with table := s.router.table.map fun e => { e with timer := e.timer.map (· - 1) } }
    ∧ t.day = { s.day with timer := s.day.timer.map (· - 1) }
    ∧ t.mgmt = { s.mgmt with save := s.mgmt.save.map fun x =>
        { x with writeTimer := x.writeTimer.map (· - 1), saveTimer := x.saveTimer.map (· - 1) } }
    ∧ ∀ p, isPort p = true → t.port p = { s.port p with
        selectTimer := (s.port p).selectTimer.map (· - 1), stepTimer := (s.port p).stepTimer.map (· - 1)
        retryTimer := (s.port p).retryTimer.map (· - 1), readyTimer := (s.port p).readyTimer.map (· - 1)
        pollTimer := (s.port p).pollTimer.map (· - 1), pulseTimer := (s.port p).pulseTimer.map (· - 1) }

/-- No command touches the queue: whatever waits behind it stays as it was. -/
def Obligations.CommandsKeepQueue : Prop :=
  ∀ (c : Instr) (s t : State), exec c s = .next t → t.pending = s.pending

/-- What the cold starts leave (R19, R37, R64, R92, R133, R155, R166, R190, R205), with the defaults of R202. That reset is a finished
cold start at power-up without a sound image is the model's choice (log entry 10). -/
def Obligations.ResetValues : Prop :=
  State.reset.pending = []
  ∧ State.reset.tables = Tables.defaults
  ∧ (∀ a, isStation a = true → State.reset.station a = { state := .absent, teller := none, misses := 0, frames := [] })
  ∧ State.reset.loop.rate = .bps1000000 ∧ State.reset.loop.goodCount = 0 ∧ State.reset.loop.failCount = 0
  ∧ State.reset.loop.cycle = 0 ∧ State.reset.loop.stepDowns = 0 ∧ State.reset.loop.test = none
  ∧ State.reset.uplink.link = .down ∧ State.reset.uplink.rate = .bps64000 ∧ State.reset.uplink.rx = []
  ∧ State.reset.uplink.control = [] ∧ State.reset.uplink.data = [] ∧ State.reset.uplink.sending = none
  ∧ State.reset.uplink.held = false
  ∧ State.reset.router.table = [] ∧ (∀ a, a < 24 → look State.reset.router.sequences a = 0)
  ∧ State.reset.router.forwarderSeq = 0 ∧ (∀ a, a < 24 → look State.reset.router.unanswered a = none)
  ∧ (∀ d, isDrawer d = true → (State.reset.drawer d).isOpen = false ∧ (State.reset.drawer d).position = 0
      ∧ (State.reset.drawer d).limit = .normal ∧ (State.reset.drawer d).overflow = false
      ∧ (State.reset.drawer d).unbalanced = false)
  ∧ (∀ p, isPort p = true → (State.reset.port p).state = .disabled ∧ (State.reset.port p).dialogue = .none
      ∧ (State.reset.port p).order = none)
  ∧ (∀ i, i < 512 → look State.reset.passbook.slots i = none)
  ∧ State.reset.journal.entries = [] ∧ State.reset.journal.counter = 0 ∧ State.reset.journal.warning = false
  ∧ State.reset.day.state = .noDay ∧ State.reset.day.date = none ∧ State.reset.day.freeze = none
  ∧ State.reset.mgmt.inFlight = none ∧ State.reset.mgmt.configured = false ∧ State.reset.mgmt.clock = 0
  ∧ State.reset.mgmt.clockSet = false ∧ State.reset.mgmt.lastSave = .none ∧ State.reset.mgmt.cause = .powerUp
  ∧ State.reset.mgmt.warmStarts = 0

/-- The invariants below hold at reset. -/
def Obligations.InvariantsHoldAtReset : Prop :=
  QueuesFit State.reset ∧ State.reset.journal.Sound ∧ State.reset.mgmt.Sound ∧ TableFits State.reset ∧ DrawersFit State.reset
  ∧ State.reset.passbook.Sound ∧ SenderFits State.reset

/-- R24, R25, R33: every step from any state whose queues are within their capacities leaves them so. -/
def Obligations.StepKeepsQueuesFit : Prop :=
  ∀ s t : State, QueuesFit s → step s = .next t → QueuesFit t

/-- R157, R162: every step from any state with a sound journal leaves it sound. -/
def Obligations.StepKeepsJournalSound : Prop :=
  ∀ s t : State, s.journal.Sound → step s = .next t → t.journal.Sound

/-- R199, R200: every step from any state with a clock in range and a canonical settings memory leaves them so. -/
def Obligations.StepKeepsClockAndMemory : Prop :=
  ∀ s t : State, s.mgmt.Sound → step s = .next t → t.mgmt.Sound

/-- R47, R160: every step from any state whose outstanding request table and journal are within their limits leaves them so. -/
def Obligations.StepKeepsTableAndRoom : Prop :=
  ∀ s t : State, TableFits s → step s = .next t → TableFits t

/-- R69, R73: every step from any state whose reserved counts are at most the on-hand ones and are the sums over the outstanding
entries, its table being within its limits, leaves them so. -/
def Obligations.StepKeepsReservations : Prop :=
  ∀ s t : State, TableFits s → DrawersFit s → step s = .next t → DrawersFit t

/-- R139, R180: every step from any state leaves a sound pending line store sound, and the end-of-day sender's fields within their ranges
where they were. -/
def Obligations.StepKeepsStoreAndSender : Prop :=
  ∀ s t : State, step s = .next t → (s.passbook.Sound → t.passbook.Sound) ∧ (SenderFits s → SenderFits t)

/-! ### Encodings and arithmetic -/

/-- R200, R202: the settings image formed from tables that pass their owners' tests is read back as those tables, whatever follows it
in the memory. -/
def Obligations.ImageReadsBack : Prop :=
  ∀ (t : Tables) (after : List Byte), t.Sound → t.imageLength ≤ Config.settingsBytes → readImage (t.image ++ after) = some t

/-- R1 to R3: a loop frame is its address, kind, length, body and check; its bytes sum to 0; and as an answer of the station visited, with
a kind, length and report byte that suit the visit, it is classified good. On the line each byte is a character of 11 bits, start bit,
data bits from the least significant, mark bit, stop bit, and the first character alone is marked. -/
def Obligations.LoopFramesCheckAndClassify : Prop :=
  ∀ (a k : Nat) (body : List Byte), a ≤ 255 → k ≤ 255 → body.length ≤ 255 →
    (∃ check, loopFrame a k body = BitVec.ofNat 8 a :: BitVec.ofNat 8 k :: BitVec.ofNat 8 body.length :: (body ++ [check]))
    ∧ (loopFrame a k body).foldl (· + ·) 0 = 0
    ∧ (∀ awaited, answerSuits awaited (BitVec.ofNat 8 k) body = true →
        classify a awaited ((loopFrame a k body).mapIdx fun i b => { marked := i = 0, data := b, stopOk := true }) = .good)
    ∧ (frameBits (loopFrame a k body)).map readLoopBits
        = (loopFrame a k body).mapIdx (fun i b => { marked := i = 0, data := b, stopOk := true })
    ∧ ∀ i c, (frameBits (loopFrame a k body))[i]? = some c →
        c.getLsbD 0 = false ∧ c.getLsbD 9 = decide (i = 0) ∧ c.getLsbD 10 = true
        ∧ ∀ n, n < 8 → ∃ b, (loopFrame a k body)[i]? = some b ∧ c.getLsbD (n + 1) = b.getLsbD n

/-- R21 to R23: the bytes of a block, received at a part of the same branch, are stored GOOD with the block's class, tag and body; at a
part of another branch the block is misaddressed. -/
def Obligations.BlocksAreReceived : Prop :=
  ∀ (branch other time : Nat) (b : TxBlock), branch < 65536 → b.tag < 65536 → b.body.length ≤ Config.maxBody →
    (mustBeEmpty (some b.cls) = true → b.body = []) →
    receive branch (blockBytes branch b ++ crcBytes (blockBytes branch b)) time
      = .stored { status := .good, cls := some b.cls, tag := b.tag, body := b.body, time, lost := 0 }
    ∧ (other ≠ branch →
        receive other (blockBytes branch b ++ crcBytes (blockBytes branch b)) time = .misaddressed)

/-- R71: the cash amount is the multiple of the cash unit nearest to the amount, a tie going to the higher, and the rounding result is
at most half the cash unit. -/
def Obligations.CashRoundsToNearest : Prop :=
  ∀ q a : Nat, 0 < q →
    q ∣ cashRound q a ∧ 2 * cashRound q a ≤ 2 * a + q ∧ 2 * a < 2 * cashRound q a + q
    ∧ roundingResult .cashOut a (cashRound q a) = (a : Int) - cashRound q a
    ∧ roundingResult .cashIn a (cashRound q a) = (cashRound q a : Int) - a
    ∧ ∀ dir, 2 * (roundingResult dir a (cashRound q a)).natAbs ≤ q

/-- R176: a section's items shared among segments: none is lost, moved or split, no segment holds more than 512 bytes, and each segment
but the last is as full as whole items allow. -/
def Obligations.SegmentsPackGreedily : Prop :=
  ∀ items : List (List Byte), (∀ i ∈ items, i.length ≤ Config.segmentBytes) →
    (packGroups Config.segmentBytes Config.segmentBytes items).flatten = items
    ∧ (∀ g ∈ packGroups Config.segmentBytes Config.segmentBytes items, g.flatten.length ≤ Config.segmentBytes)
    ∧ ∀ (k : Nat) (g h : List (List Byte)), (packGroups Config.segmentBytes Config.segmentBytes items)[k]? = some g →
        (packGroups Config.segmentBytes Config.segmentBytes items)[k + 1]? = some h →
        ∃ i, h.head? = some i ∧ Config.segmentBytes < g.flatten.length + i.length

/-! ### The station loop -/

/-- R6, R7, R95, R111: the visit to a PRESENT or SIGNED station: up to two frames asked of the Screen Composer, sent and recorded, then the
POLL. What the composer hands over is row 1 if it is dirty, else row 24, else the lowest dirty row of 2 to 23, as a WRITE ROW of its span
with each cell's character and display attribute index as they stand, its dirty mark cleared; with no row dirty a pending READY, which
it clears; and else nothing. -/
def Obligations.VisitServesStation : Prop :=
  (∀ s : State, s.phase = .running → s.loop.visit = none → isStation s.loop.nextAddr = true →
    ((s.station s.loop.nextAddr).state = .present ∨ (s.station s.loop.nextAddr).state = .signed) →
    let a := s.loop.nextAddr
    let first := s.nextFrame a
    let second := first.2.nextFrame a
    let frames := first.1.toList ++ second.1.toList
    exec .visit s = .next { s with
      composer := second.2.composer
      loop := { s.loop with
        visit := some { station := a, awaited := .poll, markWait := false, rate := s.loop.rate }
        sentFrames := (frames.map Prod.snd ++ [loopFrame a 0x10 []]).map frameBits
        stations := put s.loop.stations (a - 1)
          { s.station a with frames := (s.station a).frames ++ frames.map Prod.fst } } })
  ∧ ∀ (s : State) (a : Nat), isStation a = true →
    let x := s.screen a
    let left (y : StationScreen) : State := { s with composer := { s.composer with screens := put s.composer.screens (a - 1) y } }
    let bank := s.tables.bank (s.tables.station a).bank
    let cell (r c : Nat) : Cell := (x.row r).getD (c - 1) blankCell
    (∀ r sp, x.dirtySpan r = some sp →
      (r = 1 ∨ r = 24 ∧ x.dirtySpan 1 = none
        ∨ 2 ≤ r ∧ r ≤ 23 ∧ x.dirtySpan 1 = none ∧ x.dirtySpan 24 = none ∧ ∀ q, 2 ≤ q → q < r → x.dirtySpan q = none) →
      s.nextFrame a = (some (.row r sp.first sp.last, loopFrame a 0x11 ([BitVec.ofNat 8 r, BitVec.ofNat 8 sp.first]
          ++ (List.range' sp.first (sp.last + 1 - sp.first)).flatMap fun c =>
              [(cell r c).char, BitVec.ofNat 8 (look bank (cell r c).attr).displayIndex])),
        left { x with dirty := put x.dirty (r - 1) none }))
    ∧ ((∀ r, 1 ≤ r → r ≤ 24 → x.dirtySpan r = none) →
        (x.pendingReady = true → s.nextFrame a = (some (.ready, loopFrame a 0x12 []), left { x with pendingReady := false }))
        ∧ (x.pendingReady = false → s.nextFrame a = (none, s)))

/-- R6, R16: the visit to a station that is HELD, ABSENT or in TEST. A HELD station, and an ABSENT one in a cycle whose counter is not 0, is
passed over; an ABSENT one in cycle 0 is polled; one in TEST is sent its next TEST frame, of FIXED its 8 bytes, of PSEUDO the next 16 bytes
of the pattern register, which goes on from there. -/
def Obligations.VisitPassesOrTests : Prop :=
  ∀ s : State, s.phase = .running → s.loop.visit = none → isStation s.loop.nextAddr = true →
    let a := s.loop.nextAddr
    let passed : State := { s with loop := { s.loop with
      nextAddr := if a = 24 then 1 else a + 1, cycle := if a = 24 then (s.loop.cycle + 1) % 16 else s.loop.cycle } }
    ((s.station a).state = .held → exec .visit s = .next passed)
    ∧ ((s.station a).state = .absent → s.loop.cycle ≠ 0 → exec .visit s = .next passed)
    ∧ ((s.station a).state = .absent → s.loop.cycle = 0 → exec .visit s = .next { s with loop := { s.loop with
        visit := some { station := a, awaited := .poll, markWait := false, rate := s.loop.rate }
        sentFrames := [frameBits (loopFrame a 0x10 [])] } })
    ∧ ∀ r, (s.station a).state = .test → s.loop.test = some r →
        ∃ expected body pattern, exec .visit s = .next { s with loop := { s.loop with
            visit := some { station := a, awaited := .test expected, markWait := false, rate := s.loop.rate }
            sentFrames := [frameBits (loopFrame a 0x13 body)]
            test := some { r with sent := min (r.sent + 1) 16777215, pattern := pattern } } }
          ∧ (∀ bytes, r.pattern = .fixed bytes → expected = bytes ∧ pattern = r.pattern)
          ∧ (∀ g, r.pattern = .pseudo g → expected = (patternBytes 16 g).1 ∧ pattern = .pseudo (patternBytes 16 g).2)
          ∧ (if r.injection = true ∧ min (r.sent + 1) 16777215 % 127 = 0
              then body = (expected.take 1).map (~~~ ·) ++ expected.drop 1 else body = expected)

/-- R8, R10, R13: a good NIL. At a PRESENT or SIGNED station the misses are 0 and the visit frames are confirmed, or handed back when frame
refused is set; an ABSENT station returns, SIGNED if it holds a teller ID and else PRESENT, its whole screen dirty. The answer is
counted, the visit ends, and nothing but the loop and this station's screen changes. -/
def Obligations.NilSettlesVisit : Prop :=
  ∀ (s : State) (v : Visit) (report : Byte), s.loop.visit = some v → v.markWait = false → v.awaited = .poll →
    isStation v.station = true → report.toNat < 2 →
    ((s.station v.station).state = .present ∨ (s.station v.station).state = .signed ∨ (s.station v.station).state = .absent) →
    ∃ t, exec (.nil report) s = .next t
      ∧ t = { s with loop := t.loop, composer := t.composer }
      ∧ OnlyScreen v.station s.composer t.composer
      ∧ t.loop = { s.loop with
          stations := t.loop.stations, goodCount := t.loop.goodCount, failCount := t.loop.failCount
          nextAddr := if s.loop.nextAddr = 24 then 1 else s.loop.nextAddr + 1
          cycle := if s.loop.nextAddr = 24 then (s.loop.cycle + 1) % 16 else s.loop.cycle, visit := none }
      ∧ (if s.loop.goodCount + 1 = 512 then t.loop.goodCount = 0 ∧ t.loop.failCount = 0
          else t.loop.goodCount = s.loop.goodCount + 1 ∧ t.loop.failCount = s.loop.failCount)
      ∧ (∀ b, isStation b = true → b ≠ v.station → t.station b = s.station b)
      ∧ ((s.station v.station).state ≠ .absent →
          t.station v.station = { s.station v.station with misses := 0, frames := [] }
          ∧ (report = 0 → t.composer = s.composer)
          ∧ (report = 1 → t.screen v.station
              = (s.station v.station).frames.foldl StationScreen.handBack (s.screen v.station)))
      ∧ ((s.station v.station).state = .absent →
          t.station v.station = { s.station v.station with
            state := if (s.station v.station).teller.isSome then .signed else .present, misses := 0, frames := [] }
          ∧ ∀ r, 1 ≤ r → r ≤ 24 → (t.screen v.station).dirtySpan r = some ⟨1, 80⟩)

/-- R8, R10, R110: an ALERT ACK from a PRESENT, SIGNED or ABSENT station, frame refused clear or set: the alert at the head of its queue is
removed and the next is shown in row 24; with an empty queue the screen is as NIL leaves it. The frames, the station's record, its return
from ABSENT, and the visit are as after a NIL of the same report. -/
def Obligations.AlertAckRemovesHead : Prop :=
  ∀ (s : State) (v : Visit) (report : Byte), AnswersPoll s v report →
    ∃ t u, exec (.nil report) s = .next u ∧ exec (.alertAck report) s = .next t
      ∧ t = { u with composer := t.composer }
      ∧ OnlyScreen v.station u.composer t.composer
      ∧ (t.screen v.station).pendingReady = (u.screen v.station).pendingReady
      ∧ ((s.screen v.station).alerts = [] → t.composer = u.composer)
      ∧ ∀ x rest, (s.screen v.station).alerts = x :: rest →
          (t.screen v.station).alerts = rest
          ∧ (t.screen v.station).row 24 = alertRow s.composer.bulletinText rest
          ∧ (∀ r, 2 ≤ r → r ≤ 23 → (t.screen v.station).row r = (s.screen v.station).row r)
          ∧ ∀ r, 1 ≤ r → r ≤ 23 → (t.screen v.station).row r = (u.screen v.station).row r
              ∧ (t.screen v.station).dirtySpan r = (u.screen v.station).dirtySpan r

/-- R8, R10, R41 to R48, R73: a request that passes intake, of a forwarded kind, with the link UP and room in the data queue: its REQUEST
block is offered, its OUT legs are reserved, its QUEUED entry joins the table with its deadline timer, and the station's next sequence
advances. The answer is settled as a NIL is, frame refused clear or set, and one of an ABSENT station is judged in the station's new
state. -/
def Obligations.RequestIsAccepted : Prop :=
  ∀ (s : State) (v : Visit) (report : Byte) (body : List Byte) (r : Request) (k : KindEntry),
    PassesIntake s v report body r k → k.forwarded = true → s.uplink.link = .up → s.uplink.data.length < Config.dataCapacity →
    let a := v.station
    let tag : Tag := ⟨a, look s.router.sequences (a - 1)⟩
    let legs := r.legs.map (makeLeg s.tables k.cls)
    let seconds := if s.params.replyTimeout = 0 then 30 else s.params.replyTimeout
    ∃ u, exec (.nil report) s = .next u ∧ exec (.req report body) s = .next { u with
      uplink := { s.uplink with data := s.uplink.data ++
        [⟨.request, tagField tag, stationBody s.mgmt.clock a (s.station a).teller (s.tables.station a).drawer r legs⟩] }
      drawers := match (s.tables.station a).drawer with
        | some d => put s.drawers d ((legs.filter fun l => l.dir = .cashOut).foldl (fun x l => x.reserve l) (s.drawer d))
        | none => s.drawers
      router := { s.router with
        sequences := put s.router.sequences (a - 1) ((tag.sequence + 1) % 256)
        table := s.router.table ++ [{ tag, kind := r.kind, station := a, drawer := (s.tables.station a).drawer
                                      state := .queued, acceptance := s.mgmt.clock
                                      deadline := s.mgmt.clock + seconds, account := r.account, legs
                                      journalSeq := none, timer := some (1000 * seconds) }] } }

/-- R41 to R45, R57 to R59, R75 to R79, R84 to R87, R103, R105, R159: what a request comes to that is not accepted for head office. A malformed body,
a refusal at intake and LINE CONGESTED are counted and shown, and change nothing else. A request that passes intake completes at the branch: one
entry, with the teller as he was signed on, is written and the result is shown with the kind's local format. BALANCE replaces the counts and
leaves a balance record; CLOSE DRAWER closes; a reserve transfer moves the leg between the drawer and drawer 0; SIGN-OFF makes the
station PRESENT; a supervisor's CLOSE DAY makes the day CLOSING; any other branch-only kind, and a stand-in, post their legs, a stand-in
to the stand-in total and UNFORWARDED too. The answer is settled as a NIL is, frame refused clear or set, and one of an ABSENT station
is judged in the station's new state (R8, R10). The number of the reason of a malformed body is the model's
choice (log entry 16). -/
def Obligations.RequestsEndAtBranch : Prop :=
  (∀ (s : State) (v : Visit) (report : Byte) (body : List Byte), AnswersPoll s v report → body ≠ [] →
    ∃ t u, exec (.nil report) s = .next u ∧ exec (.req report body) s = .next t
      ∧ (readRequest body = none → t = { u with composer := t.composer, router := { s.router with counters := { s.router.counters with
            malformed := min (s.router.counters.malformed + 1) 65535 } } }
          ∧ RefusalShown u t v.station .notUnderstood)
      ∧ ∀ r reason, readRequest body = some r →
          ((s.answering v.station).intakeReason v.station r = some reason
            ∨ reason = .lineCongested ∧ (s.answering v.station).intakeReason v.station r = none ∧ s.uplink.link = .up
              ∧ Config.dataCapacity ≤ s.uplink.data.length ∧ ∃ k, s.tables.kind r.kind = some k ∧ k.forwarded = true) →
          t = { u with composer := t.composer, router := { s.router with counters := { s.router.counters with
              refusals := put s.router.counters.refusals (reason.number - 1)
                (min (look s.router.counters.refusals (reason.number - 1) + 1) 65535) } } }
          ∧ RefusalShown u t v.station reason)
  ∧ ∀ (s : State) (v : Visit) (report : Byte) (body : List Byte) (r : Request) (k : KindEntry), PassesIntake s v report body r k →
    (k.forwarded = false ∨ s.uplink.link ≠ .up) →
    let a := v.station
    let legs := r.legs.map (makeLeg s.tables k.cls)
    let sequence := s.journal.counter + 1
    let standIn := k.forwarded
    let entry (kind : JKind) (jlegs : List JLeg) : JEntry := { JEntry.ofKind kind with
      sequence, time := s.mgmt.clock, station := some a, teller := (s.station a).teller, drawer := (s.tables.station a).drawer
      txKind := some r.kind, result := some (if standIn = true then .standIn else .approved), legs := jlegs }
    let shown (t u : State) (jlegs : List JLeg) : Prop := ResultShown u t a
      (some (k.localFormat, localFields s.tables r.account jlegs standIn sequence s.mgmt.clock))
      ⟨if standIn = true then .standIn else .approved, sequence⟩
    ∃ t u, exec (.nil report) s = .next u ∧ exec (.req report body) s = .next t
      ∧ t = { u with drawers := t.drawers, journal := t.journal, composer := t.composer, router := t.router, loop := t.loop, day := t.day }
      ∧ t.journal.entries.take (s.journal.entries.length) = s.journal.entries
      ∧ (k.cls ≠ .signOff → t.loop = u.loop) ∧ (k.cls ≠ .closeDay → t.day = s.day)
      ∧ t.router = { s.router with counters := { s.router.counters with
          standIns := if standIn = true then min (s.router.counters.standIns + 1) 65535 else s.router.counters.standIns } }
      ∧ (standIn = false → k.cls = .balance → ∀ d l, (s.tables.station a).drawer = some d → isDrawer d = true → legs = [l] →
          let held := look (s.drawer d).currencies l.currency
          let difference : Int := (l.amount : Int) - currencyTotal (s.tables.denom l.currency) held.pieces
          let base := s.tables.reckonInt l.currency difference
          let jleg : JLeg :=
            { currency := l.currency, dir := .cashIn, amount := l.amount, cash := l.amount, posted := none, inDoubt := false }
          let counted : Drawer := { (s.drawer d).onCurrency l.currency fun h => { h with
              pieces := h.pieces.mapIdx fun i p =>
                { p with onHand := match l.pairs.find? fun q => q.denom = i with | some q => q.count | none => 0 }
              balance := some { counted := l.amount, difference, base := base.1, time := s.mgmt.clock } } with
            overflow := (s.drawer d).overflow || base.2 }
          t.drawers = put s.drawers d (counted.reckoned s.tables d) ∧ shown t u [jleg]
          ∧ t.journal.entries = s.journal.entries ++ [{ entry .drawerBalanced [jleg] with
              detail := some (.balanced difference base.1 (s.tables.rate l.currency)) }])
      ∧ (standIn = false → k.cls = .closeDrawer → ∀ d, (s.tables.station a).drawer = some d →
          let causes := if d = 0 then [] else (s.drawer d).unbalancedCurrencies s.tables
          t.drawers = put s.drawers d
            { s.drawer d with isOpen := false, unbalanced := (s.drawer d).unbalanced || causes != [] }
          ∧ t.journal.entries = s.journal.entries ++ [{ entry .drawerClosed [] with detail := some (.closed (causes != []) causes) }]
          ∧ shown t u [])
      ∧ (standIn = false → (k.cls = .toReserve ∨ k.cls = .fromReserve) → ∀ d l, (s.tables.station a).drawer = some d →
          isDrawer d = true → d ≠ 0 → legs = [l] →
          let base := s.tables.postedOf l
          let moved (n : Nat) (dir : Direction) : Drawer :=
            (s.tables.judgeUnbalanced n ((s.drawer n).move dir l base.1.base base.2)).reckoned s.tables n
          (∀ n, isDrawer n = true → t.drawer n =
            if n = d then moved d (if k.cls = .toReserve then .cashOut else .cashIn)
            else if n = 0 then moved 0 (if k.cls = .toReserve then .cashIn else .cashOut) else s.drawer n)
          ∧ t.journal.entries
              = s.journal.entries ++ [{ entry .transaction (postedLegs s.tables [l]) with account := r.account }]
          ∧ shown t u (postedLegs s.tables [l]))
      ∧ (standIn = false → k.cls = .signOff →
          t.loop = { u.loop with stations := put u.loop.stations (a - 1) { u.station a with state := .present, teller := none } }
          ∧ t.drawers = s.drawers
          ∧ t.journal.entries = s.journal.entries ++ [{ entry .transaction [] with account := r.account }] ∧ shown t u [])
      ∧ (standIn = false → k.cls = .closeDay →
          t.day = { s.day with state := .closing, closePending := t.day.closePending }
          ∧ (∀ d, d ∈ t.day.closePending ↔ isDrawer d = true ∧ (s.drawer d).isOpen = true ∧ (s.drawer d).hasReserved = true)
          ∧ (∀ d, isDrawer d = true → t.drawer d = { s.drawer d with
              isOpen := (s.drawer d).isOpen && (s.drawer d).hasReserved, unbalanced := (t.drawer d).unbalanced })
          ∧ shown t u []
          ∧ ∃ closed, t.journal.entries = s.journal.entries ++ { entry .transaction [] with account := r.account } :: closed
              ∧ ∀ x ∈ closed, x.kind = .drawerClosed)
      ∧ ((standIn = true
            ∨ k.cls = .enquiry ∨ k.cls = .account ∨ k.cls = .cashIn ∨ k.cls = .cashOut ∨ k.cls = .exchange ∨ k.cls = .signOn) →
          let base := s.tables.outBase legs
          t.journal.entries = s.journal.entries ++ [{ entry .transaction (postedLegs s.tables legs) with
            account := r.account, forward := if standIn = true then .unforwarded else .none }]
          ∧ shown t u (postedLegs s.tables legs)
          ∧ (legs = [] → t.drawers = s.drawers)
          ∧ ∀ d, (s.tables.station a).drawer = some d → legs ≠ [] →
              let posted := s.tables.judgeUnbalanced d (legs.foldl (fun x l =>
                x.move l.dir l (s.tables.postedOf l).1.base (s.tables.postedOf l).2) (s.drawer d))
              let stoodIn : Drawer := if standIn = true then { posted with
                  standIn := min (posted.standIn + base) Config.maxTotal
                  overflow := posted.overflow || decide (Config.maxTotal < posted.standIn + base) } else posted
              t.drawers = put s.drawers d (stoodIn.reckoned s.tables d))

/-- R17: a TEST ECHO of the body awaited raises no error; one that differs raises the error count by the number of positions that
differ, up to 255, and the first leaves a capture unless one is held. The visit ends. -/
def Obligations.EchoIsJudged : Prop :=
  ∀ (s : State) (v : Visit) (expected body : List Byte) (report : Byte) (r : TestRec),
    s.loop.visit = some v → v.markWait = false → v.awaited = .test expected → report.toNat < 2 →
    body.length = expected.length → s.loop.test = some r →
    ∃ r', exec (.testEcho report body) s = .next { s with loop := { s.loop with
        visit := none, test := some r', nextAddr := if s.loop.nextAddr = 24 then 1 else s.loop.nextAddr + 1
        cycle := if s.loop.nextAddr = 24 then (s.loop.cycle + 1) % 16 else s.loop.cycle } }
      ∧ r' = { r with errors := r'.errors, capture := r'.capture }
      ∧ (body = expected → r' = r)
      ∧ (body ≠ expected →
          r'.errors = min (r.errors + ((expected.zip body).filter fun x => x.1 ≠ x.2).length) 255
          ∧ (r.capture ≠ none → r'.capture = r.capture)
          ∧ (r.capture = none → ∃ i e x, expected[i]? = some e ∧ body[i]? = some x ∧ e ≠ x ∧ body.take i = expected.take i
              ∧ r'.capture = some { index := r.sent, position := some (i + 1), expected := some e, actual := some x }))

/-- R3, R9, R13, R17: ANSWER_TIMEOUT, ANSWER_MARK_TIMEOUT, UNUSABLE_ANSWER, and any other answer that is not good. At a PRESENT or SIGNED
station it is a miss: the visit frames are handed back, the miss count rises, and the eighth makes the station ABSENT, clears its teller ID
and forms its status line again. At an ABSENT one nothing is missed. A framing error, a failed check and a wrong address or unmarked first
character are counted in the error window, silence and a discarded answer are not. After the first character has decided, the visit waits
for the line to be at mark, and ANSWER_MARK_TIMEOUT then ends it and counts nothing more; otherwise it ends. In TEST it is a lost echo, and
nothing else. That the answer is counted before that wait, that a stop bit of the first character at space ends the visit at once, and that
an answer with a reserved report bit or of a kind or length that does not suit the visit is discarded, is the model's reading (log entry 9).
-/
def Obligations.MissIsCounted : Prop :=
  (∀ (s : State) (v : Visit), s.loop.visit = some v → v.markWait = true →
    exec .answerMarkTimeout s = .next { s with loop := { s.loop with
      visit := none, nextAddr := if s.loop.nextAddr = 24 then 1 else s.loop.nextAddr + 1
      cycle := if s.loop.nextAddr = 24 then (s.loop.cycle + 1) % 16 else s.loop.cycle } })
  ∧ ∀ (s : State) (v : Visit) (c : Instr) (counted waits : Bool), s.loop.visit = some v → v.markWait = false →
    isStation v.station = true → AnswerFails v c counted waits →
    ∃ t, exec c s = .next t
      ∧ t = { s with loop := t.loop, composer := t.composer }
      ∧ OnlyScreen v.station s.composer t.composer
      ∧ t.loop = { s.loop with
          stations := t.loop.stations, goodCount := t.loop.goodCount, failCount := t.loop.failCount, rate := t.loop.rate
          stepDowns := t.loop.stepDowns, test := t.loop.test
          visit := if waits = true then some { v with markWait := true } else none
          nextAddr := if waits = true then s.loop.nextAddr else if s.loop.nextAddr = 24 then 1 else s.loop.nextAddr + 1
          cycle := if waits = false ∧ s.loop.nextAddr = 24 then (s.loop.cycle + 1) % 16 else s.loop.cycle }
      ∧ (∀ b, isStation b = true → b ≠ v.station → t.station b = s.station b)
      ∧ (v.awaited = .poll →
          t.loop.test = s.loop.test
          ∧ (((s.station v.station).state = .present ∨ (s.station v.station).state = .signed) →
              let handedBack := (s.station v.station).frames.foldl StationScreen.handBack (s.screen v.station)
              t.station v.station = (if (s.station v.station).misses + 1 = 8
                then { state := .absent, teller := none, misses := 0, frames := [] }
                else { s.station v.station with misses := (s.station v.station).misses + 1, frames := [] })
              ∧ ((s.station v.station).misses + 1 ≠ 8 → t.screen v.station = handedBack)
              ∧ ((s.station v.station).misses + 1 = 8 →
                  SameButStatusLine handedBack (t.screen v.station) ∧ (t.screen v.station).row 1 = t.statusRow v.station))
          ∧ ((s.station v.station).state ≠ .present → (s.station v.station).state ≠ .signed →
              t.station v.station = s.station v.station ∧ t.composer = s.composer)
          ∧ (if counted = false then
              t.loop.failCount = s.loop.failCount ∧ t.loop.goodCount = s.loop.goodCount ∧ t.loop.rate = s.loop.rate
              ∧ t.loop.stepDowns = s.loop.stepDowns
            else if s.loop.failCount + 1 ≠ 32 then
              t.loop.failCount = s.loop.failCount + 1 ∧ t.loop.goodCount = s.loop.goodCount ∧ t.loop.rate = s.loop.rate
              ∧ t.loop.stepDowns = s.loop.stepDowns
            else t.loop.failCount = 0 ∧ t.loop.goodCount = 0
              ∧ (∀ low, s.params.fallbackDisable = false → s.loop.rate.lower = some low →
                  t.loop.rate = low ∧ t.loop.stepDowns = min (s.loop.stepDowns + 1) 255)
              ∧ ((s.params.fallbackDisable = true ∨ s.loop.rate.lower = none) →
                  t.loop.rate = s.loop.rate ∧ t.loop.stepDowns = s.loop.stepDowns)))
      ∧ ∀ expected, v.awaited = .test expected →
          t.composer = s.composer ∧ t.loop.stations = s.loop.stations ∧ t.loop.failCount = s.loop.failCount
          ∧ t.loop.goodCount = s.loop.goodCount ∧ t.loop.rate = s.loop.rate ∧ t.loop.stepDowns = s.loop.stepDowns
          ∧ t.loop.test = s.loop.test.map fun r => { r with
              errors := min (r.errors + 1) 255
              capture := some (r.capture.getD { index := r.sent, position := none, expected := none, actual := none }) }

/-! ### The uplink -/

/-- R27, R28: CARRIER asserted in DOWN: the link enters SYNC at the primary rate, the sync failure count is 0, the first attempt begins with
its 5 s timer and no first-SYNC stamp, and a SYNC is in the control queue. -/
def Obligations.CarrierBeginsSync : Prop :=
  ∀ s : State, s.phase = .running → s.uplink.link = .down →
    ∃ t, exec .carrierPresent s = .next t
      ∧ t = { s with carrier := true, uplink := t.uplink, composer := t.composer }
      ∧ StatusLinesOnly s.composer t.composer
      ∧ t.uplink = { s.uplink with
          link := .sync, rate := s.params.uplinkRate, syncFailures := 0, firstSync := none
          attemptTimer := some 5000, syncTimer := some 250, control := t.uplink.control }
      ∧ (t.uplink.control = s.uplink.control ∨ t.uplink.control = s.uplink.control ++ [⟨.sync, 0, []⟩])
      ∧ ∃ b ∈ t.uplink.control, b.cls = .sync

/-- R27, R52, R54, R56, R74, R159, R173, R187: CARRIER released takes the link DOWN: the receive queue and the control queue are flushed, the hold
is cleared, the timers are stopped, and a control block being sent is broken off. From UP or RECOVERY it is the link-lost event: the data
queue is flushed and a data block being sent broken off, the stations' outstanding requests complete LINK LOST, the forward entries leave
the table with their journal entries still UNFORWARDED, and a SENDING day is SUSPENDED. In SYNC the data queue and the outstanding
requests stay. -/
def Obligations.CarrierLossTakesLinkDown : Prop :=
  ∀ s : State, s.uplink.link ≠ .down →
    ∃ t, exec .carrierLost s = .next t ∧ t.carrier = false
      ∧ t.uplink = s.uplink.afterDown (decide (s.uplink.link ≠ .sync))
      ∧ (s.uplink.link = .sync → t = { s with carrier := false, uplink := t.uplink, composer := t.composer }
          ∧ StatusLinesOnly s.composer t.composer)
      ∧ (s.uplink.link ≠ .sync → LinkLost s t)

/-- R23, R24, R30: a block that becomes complete while the link is not DOWN. A good block of this branch is stored GOOD, also one whose class
code names no class, and the silence timer, when it runs, restarts at 10 s. A length over 1,024 is stored LENGTH ERROR with no body; a
wrong check sequence CHECK ERROR; a SYNC, HOLD or RELEASE with a body LENGTH ERROR; these restart nothing, and the first of these tests
that holds decides. A good block of another branch is counted and not stored. Stored is at the tail of the receive queue; with the queue
full the block is lost and the newest stored block's lost count rises; that one of a length over 1,024, which never becomes complete, is
lost in the same way is the model's reading (log entry 53). In DOWN nothing happens. -/
def Obligations.GoodBlockIsStored : Prop :=
  (∀ (s : State) (b : TxBlock) (time : Nat), s.uplink.link ≠ .down → s.params.branch < 65536 → b.tag < 65536 →
    b.body.length ≤ Config.maxBody → (mustBeEmpty (some b.cls) = true → b.body = []) →
    ∃ t, exec (.blockComplete (blockBytes s.params.branch b ++ crcBytes (blockBytes s.params.branch b)) time) s = .next t
      ∧ t = { s with uplink := { s.uplink with
          rx := t.uplink.rx, silenceTimer := s.uplink.silenceTimer.map fun _ => 10000 } }
      ∧ BlockStored s t { status := .good, cls := some b.cls, tag := b.tag, body := b.body, time, lost := 0 })
  ∧ (∀ (s : State) (code branch tag length time : Nat) (body check : List Byte), s.uplink.link ≠ .down → code < 256 → branch < 65536 →
    tag < 65536 → length < 65536 →
    let header := by1 code ++ be 2 branch ++ be 2 tag ++ be 2 length
    let arrived := exec (.blockComplete (header ++ body ++ check) time) s
    let stored (status : RxStatus) (body : List Byte) (timer : Timer) : Prop := ∃ t, arrived = .next t
      ∧ t = { s with uplink := { s.uplink with rx := t.uplink.rx, silenceTimer := timer } }
      ∧ BlockStored s t { status, cls := nameIn blockClassNames code, tag, body, time, lost := 0 }
    (1024 < length → stored .lengthError [] s.uplink.silenceTimer)
    ∧ (length ≤ 1024 → body.length = length → check.length = 2 →
        (check ≠ crcBytes (header ++ body) → stored .checkError body s.uplink.silenceTimer)
        ∧ (check = crcBytes (header ++ body) →
            let empty : Prop := code = 8 ∨ code = 9 ∨ code = 10
            (empty → body ≠ [] → stored .lengthError body s.uplink.silenceTimer)
            ∧ (¬ (empty ∧ body ≠ []) →
                (branch = s.params.branch → stored .good body (s.uplink.silenceTimer.map fun _ => 10000))
                ∧ (branch ≠ s.params.branch → arrived = .next { s with uplink := { s.uplink with
                    counters := { s.uplink.counters with misaddressed := min (s.uplink.counters.misaddressed + 1) 65535 } } })))))
  ∧ ∀ (s : State) (bytes : List Byte) (time : Nat), s.uplink.link = .down → exec (.blockComplete bytes time) s = .next s

/-- R24, R25, R26, R30: a block that the classifier discards. With an error status it raises the counter of its status. In UP a GOOD block of a
class that only the part sends, or of a class code that names no class, raises the good block and the unknown class counters; in SYNC and
RECOVERY a GOOD block other than a SYNC raises the out-of-state counter alone. A lost count it carries is then added. In UP it is bad and
is counted in the burst counts, and the sixteenth bad one is the error burst, at which the link enters RECOVERY; in SYNC and RECOVERY it is
not. That a bad block which would be the 256th leaves the block count at 255 is the model's choice (log entry 15). -/
def Obligations.BadBlockIsDiscarded : Prop :=
  ∀ (s : State) (b : RxBlock) (rest : List RxBlock), s.uplink.rx = b :: rest → s.uplink.link ≠ .down →
    (b.status ≠ .good
      ∨ s.uplink.link = .up ∧ (b.cls = none ∨ b.cls = some .request ∨ b.cls = some .mgmtResp ∨ b.cls = some .eodSeg)
      ∨ s.uplink.link ≠ .up ∧ b.cls ≠ some .sync) →
    let raised (when : Bool) (n : Nat) : Nat := if when = true then min (n + 1) 65535 else n
    let up : Bool := decide (s.uplink.link = .up)
    let good : Bool := decide (b.status = .good)
    ∃ t, exec .badBlock s = .next t
      ∧ t = { s with uplink := t.uplink, composer := t.composer }
      ∧ StatusLinesOnly s.composer t.composer
      ∧ t.uplink.counters = { s.uplink.counters with
          checkErrors := raised (decide (b.status = .checkError)) s.uplink.counters.checkErrors
          lengthErrors := raised (decide (b.status = .lengthError)) s.uplink.counters.lengthErrors
          goodBlocks := raised (up && good) s.uplink.counters.goodBlocks
          unknownClass := raised (up && good) s.uplink.counters.unknownClass
          outOfState := raised (!up && good) s.uplink.counters.outOfState
          bursts := raised (up && decide (s.uplink.burstBad + 1 = 16)) s.uplink.counters.bursts
          overrunLost := min (s.uplink.counters.overrunLost + b.lost) 65535 }
      ∧ (s.uplink.link ≠ .up → t.composer = s.composer ∧ t.uplink = { s.uplink with rx := rest, counters := t.uplink.counters })
      ∧ (s.uplink.link = .up → s.uplink.burstBad + 1 ≠ 16 → t.composer = s.composer
          ∧ t.uplink = { s.uplink with
              rx := rest, counters := t.uplink.counters, burstBad := s.uplink.burstBad + 1
              burstBlocks := min (s.uplink.burstBlocks + 1) 255 })
      ∧ (s.uplink.link = .up → s.uplink.burstBad + 1 = 16 →
          t.uplink.link = .recovery ∧ t.uplink.rx = [] ∧ t.uplink.recoveryTimer = some 5000 ∧ t.uplink.recoverySyncs = 0
          ∧ t.uplink.silenceTimer = none ∧ t.uplink.keepAliveTimer = none)

/-- R28, R30, R31: a good SYNC taken. In SYNC one with no stamp, or later than 1 s after it, leaves its time as the stamp; one no more than
1 s after the stamp brings the link UP. In RECOVERY the first is counted and the second brings the link UP. At UP the silence timer
runs from 10 s, the keep-alive from 2 s, the burst counts and the sync failure count are 0, and a SUSPENDED day is SENDING. -/
def Obligations.SyncBringsLinkUp : Prop :=
  ∀ (s : State) (b : RxBlock) (rest : List RxBlock), s.uplink.rx = b :: rest → b.status = .good → b.cls = some .sync →
    s.uplink.link ≠ .down →
    ∃ t, exec .sync s = .next t
      ∧ (s.uplink.link = .up → t = { s with uplink := s.uplink.afterGood })
      ∧ (s.uplink.link = .sync → (∀ stamp, s.uplink.firstSync = some stamp → stamp + 1000 < b.time) →
          t = { s with uplink := { s.uplink with rx := rest, firstSync := some b.time, counters := t.uplink.counters } })
      ∧ (s.uplink.link = .recovery → s.uplink.recoverySyncs + 1 ≠ 2 →
          t = { s with uplink := { s.uplink with
            rx := rest, recoverySyncs := s.uplink.recoverySyncs + 1, counters := t.uplink.counters } })
      ∧ (((s.uplink.link = .sync ∧ ∃ stamp, s.uplink.firstSync = some stamp ∧ b.time ≤ stamp + 1000)
            ∨ (s.uplink.link = .recovery ∧ s.uplink.recoverySyncs + 1 = 2)) →
          t = { s with uplink := t.uplink, composer := t.composer, day := t.day, mgmt := t.mgmt }
          ∧ StatusLinesOnly s.composer t.composer
          ∧ t.uplink = { s.uplink with
              link := .up, rx := rest, syncFailures := 0, burstBlocks := 0, burstBad := 0, firstSync := none
              silenceTimer := some 10000, keepAliveTimer := some 2000, attemptTimer := none, syncTimer := none
              recoveryTimer := none, counters := t.uplink.counters }
          ∧ t.day = { s.day with state := if s.day.state = .suspended then .sending else s.day.state }
          ∧ t.mgmt = { s.mgmt with restart := s.mgmt.restart.map fun r => { r with upSeen := true } })
      ∧ t.uplink.counters = { s.uplink.counters with
          goodBlocks := min (s.uplink.counters.goodBlocks + 1) 65535
          overrunLost := min (s.uplink.counters.overrunLost + b.lost) 65535 }

/-- R29: the attempt timer expires in SYNC: the attempt has failed. Below the threshold, or with a threshold of 0, only the sync failure
count rises; at the threshold it returns to 0 and, where the primary rate has a fallback, the rate passes between the two, the receive
queue is flushed and the rate switch counter rises. A new attempt begins. -/
def Obligations.AttemptFailureSwitchesRate : Prop :=
  ∀ s : State, s.uplink.link = .sync → s.uplink.attemptTimer ≠ none → s.uplink.syncFailures < 255 →
    ∃ t, exec .attemptTimer s = .next t
      ∧ t = { s with uplink := t.uplink }
      ∧ t.uplink = { s.uplink with
          attemptTimer := some 5000, firstSync := none, syncFailures := t.uplink.syncFailures, rate := t.uplink.rate
          rx := t.uplink.rx, counters := t.uplink.counters }
      ∧ ((s.params.syncThreshold = 0 ∨ s.uplink.syncFailures + 1 < s.params.syncThreshold) →
          t.uplink.syncFailures = s.uplink.syncFailures + 1 ∧ t.uplink.rate = s.uplink.rate ∧ t.uplink.rx = s.uplink.rx
          ∧ t.uplink.counters = s.uplink.counters)
      ∧ (s.params.syncThreshold ≠ 0 → s.params.syncThreshold ≤ s.uplink.syncFailures + 1 →
          t.uplink.syncFailures = 0
          ∧ (s.params.uplinkRate.fallback = none →
              t.uplink.rate = s.uplink.rate ∧ t.uplink.rx = s.uplink.rx ∧ t.uplink.counters = s.uplink.counters)
          ∧ ∀ low, s.params.uplinkRate.fallback = some low →
              t.uplink.rate = (if s.uplink.rate = s.params.uplinkRate then low else s.params.uplinkRate) ∧ t.uplink.rx = []
              ∧ t.uplink.counters = { s.uplink.counters with
                  rateSwitches := min (s.uplink.counters.rateSwitches + 1) 65535 })

/-- R28, R30, R33: at the end of a 250 ms period in SYNC or RECOVERY, and of a 2 s keep-alive period in UP, a SYNC is in the control queue,
one at most is added, and the period begins again. -/
def Obligations.SyncsAreOffered : Prop :=
  ∀ s : State,
    (s.uplink.syncTimer ≠ none → ∃ t, exec .syncOffer s = .next t
      ∧ t = { s with uplink := { s.uplink with syncTimer := some 250, control := t.uplink.control } }
      ∧ (∃ b ∈ t.uplink.control, b.cls = .sync)
      ∧ t.uplink.control = (if (s.uplink.control.any fun b => b.cls = .sync) = true then s.uplink.control
          else s.uplink.control ++ [⟨.sync, 0, []⟩]))
    ∧ (s.uplink.keepAliveTimer ≠ none → ∃ t, exec .keepAlive s = .next t
      ∧ t = { s with uplink := { s.uplink with keepAliveTimer := some 2000, control := t.uplink.control } }
      ∧ (∃ b ∈ t.uplink.control, b.cls = .sync)
      ∧ t.uplink.control = (if (s.uplink.control.any fun b => b.cls = .sync) = true then s.uplink.control
          else s.uplink.control ++ [⟨.sync, 0, []⟩]))

/-- R27, R30, R31, R52, R54, R56, R74, R159, R173, R187: the silence timer expires in UP: the link enters RECOVERY, which is no link-lost event.
The RECOVERY limit expires: the link passes through DOWN, a link-lost event, with what that does to the queues, the block being sent, the
outstanding requests and a SENDING day, and with carrier present is in SYNC at the primary rate. -/
def Obligations.SilenceAndRecoveryLimit : Prop :=
  ∀ s : State,
    (s.uplink.link = .up → s.uplink.silenceTimer ≠ none → ∃ t, exec .silenceTimer s = .next t
      ∧ t = { s with uplink := t.uplink, composer := t.composer }
      ∧ StatusLinesOnly s.composer t.composer
      ∧ t.uplink = { s.uplink with
          link := .recovery, rx := [], silenceTimer := none, keepAliveTimer := none, recoveryTimer := some 5000
          recoverySyncs := 0, syncTimer := some 250, control := t.uplink.control
          counters := { s.uplink.counters with silences := min (s.uplink.counters.silences + 1) 65535 } }
      ∧ ∃ b ∈ t.uplink.control, b.cls = .sync)
    ∧ (s.uplink.link = .recovery → s.uplink.recoveryTimer ≠ none → ∃ t, exec .recoveryLimit s = .next t
      ∧ LinkLost s t ∧ t.carrier = s.carrier
      ∧ (let down := { s.uplink.afterDown true with
            counters := { s.uplink.counters with recoveryFailures := min (s.uplink.counters.recoveryFailures + 1) 65535 } }
        t.uplink = if s.carrier = true then { down with
            link := .sync, rate := s.params.uplinkRate, syncFailures := 0, attemptTimer := some 5000, syncTimer := some 250
            control := [⟨.sync, 0, []⟩] } else down))

/-- R32: HOLD sets the hold state and starts its timer at 60 s, held or not; RELEASE taken while held clears it and stops the timer, and
while not held does nothing; the expiry clears it and raises the auto-release counter, and comes to nothing when the part is not
held. Taking the block is R25's. -/
def Obligations.HoldAndRelease : Prop :=
  (∀ (s : State) (b : RxBlock), HeadBlock s .hold b →
    exec .hold s = .next { s with uplink := { s.uplink.afterGood with held := true, holdTimer := some 60000 } })
  ∧ (∀ (s : State) (b : RxBlock), HeadBlock s .release b → s.uplink.held = true →
    exec .release s = .next { s with uplink := { s.uplink.afterGood with held := false, holdTimer := none } })
  ∧ (∀ (s : State) (b : RxBlock), HeadBlock s .release b → s.uplink.held = false →
    exec .release s = .next { s with uplink := s.uplink.afterGood })
  ∧ (∀ s : State, s.uplink.held = true → s.uplink.holdTimer ≠ none →
    exec .holdTimer s = .next { s with uplink := { s.uplink with
      held := false, holdTimer := none
      counters := { s.uplink.counters with autoReleases := min (s.uplink.counters.autoReleases + 1) 65535 } } })
  ∧ (∀ s : State, s.uplink.held = false → exec .holdTimer s = .next s)

/-- R29, R34, R46, R181: the free transmitter. In UP it takes the head of the control queue, or with that empty and no hold the head of the
data queue; in SYNC and RECOVERY a SYNC alone. The block is sent as its opening sequence, header, body and check sequence, with the branch
number and at the rate that stand as it begins. With nothing to send it stays free. A block that was not broken off has left it: the
entry of a REQUEST is SENT; an EOD SEG raises highest sent and, in SENDING with the timer stopped, starts it at 4 s; any other class only
frees it. That a block broken off stays in the transmitter until it is said to have left, as fill and the complement of its check
sequence from a break whose place is a free value, is the model's choice (log entry 14); its owner is told nothing. That every entry which
holds the tag of a REQUEST becomes SENT, should there be two, is the model's choice (log entry 51). -/
def Obligations.TransmitterChooses : Prop :=
  (∀ s : State, s.uplink.sending = none →
    (∀ b rest, s.uplink.link = .up → s.uplink.control = b :: rest → exec .transmitStart s = .next { s with uplink := { s.uplink with
      control := rest, sending := some ⟨b, s.params.branch, s.uplink.rate, false⟩, lineOut := lineBytes s.params.branch b } })
    ∧ (∀ b rest, s.uplink.link = .up → s.uplink.control = [] → s.uplink.data = b :: rest →
      exec .transmitStart s = .next (if s.uplink.held = true then s else { s with uplink := { s.uplink with
        data := rest, sending := some ⟨b, s.params.branch, s.uplink.rate, false⟩, lineOut := lineBytes s.params.branch b } }))
    ∧ ((s.uplink.link = .sync ∨ s.uplink.link = .recovery) → (∃ b ∈ s.uplink.control, b.cls = .sync) →
      exec .transmitStart s = .next { s with uplink := { s.uplink with
        control := s.uplink.control.filter fun b => b.cls ≠ .sync, sending := some ⟨⟨.sync, 0, []⟩, s.params.branch, s.uplink.rate, false⟩
        lineOut := lineBytes s.params.branch ⟨.sync, 0, []⟩ } })
    ∧ ((s.uplink.link = .sync ∨ s.uplink.link = .recovery) → (∀ b ∈ s.uplink.control, b.cls ≠ .sync) →
      exec .transmitStart s = .next s)
    ∧ (s.uplink.link = .up → s.uplink.control = [] → s.uplink.data = [] → exec .transmitStart s = .next s)
    ∧ (s.uplink.link = .down → exec .transmitStart s = .next s))
  ∧ ∀ (s : State) (x : Sending), s.uplink.sending = some x →
    (x.broken = false → x.block.cls = .request →
      exec .blockLeftTransmitter s = .next { s with
        uplink := { s.uplink with sending := none }
        router := { s.router with
          table := s.router.table.map fun e => if tagField e.tag = x.block.tag then { e with state := .sent } else e } })
    ∧ (x.broken = false → x.block.cls = .eodSeg →
      exec .blockLeftTransmitter s = .next { s with
        uplink := { s.uplink with sending := none }
        day := { s.day with
          highest := max s.day.highest x.block.tag
          timer := if s.day.timer = none ∧ s.day.state = .sending then some 4000 else s.day.timer } })
    ∧ (x.broken = false → x.block.cls ≠ .request → x.block.cls ≠ .eodSeg →
      exec .blockLeftTransmitter s = .next { s with uplink := { s.uplink with sending := none } })
    ∧ (x.broken = true → ∃ t, exec .blockLeftTransmitter s = .next t
      ∧ t = { s with free := s.free + 1, uplink := { s.uplink with sending := none, lineOut := t.uplink.lineOut } }
      ∧ t.uplink.lineOut.length = (lineBytes x.branch x.block).length
      ∧ ∃ kept fill, t.uplink.lineOut = kept ++ fill ++ (crcBytes (blockBytes x.branch x.block)).map (~~~ ·)
          ∧ List.IsPrefix kept (lineBytes x.branch x.block) ∧ ∀ b ∈ fill, b = 0xAA)

/-! ### Transactions in flight -/

/-- R50 to R52, R75 to R79, R103, R104, R159: an approved reply that matches the entry of a request of one station, its amounts those of the
legs. The entry leaves the table, its block withdrawn when it is QUEUED. Every leg is posted to the entry's drawer, its OUT legs no
longer reserved, and the position and limit state are formed again; no other drawer changes. One TRANSACTION entry with result APPROVED is
written, with the teller, drawer, kind and account of the entry. An approved SIGN-ON signs the station on with the teller ID of field 1.
The reply is shown at the station. Its passbook line is handed over when the kind allows it, and one not recorded is journaled
when there is room, which the model judges with the entry still counted (log entry 32). -/
def Obligations.ApprovedReplyCompletes : Prop :=
  ∀ (s : State) (b : RxBlock) (r : Reply) (e : OutEntry) (k : KindEntry),
    HeadBlock s .reply b → readReply b.body = some r → s.router.entry (tagOf b.tag) = some e → e.journalSeq = none →
    s.tables.kind e.kind = some k → (k.cls = .signOn → replyTeller r ≠ none) → r.approved = true →
    r.amounts = e.legs.map Leg.amount → NoForceClose s e →
    let sequence := s.journal.counter + 1
    let teller := if k.cls = .signOn then replyTeller r else (s.station e.station).teller
    let signedOn : StationRec := { s.station e.station with state := .signed, teller := replyTeller r }
    let handed := if k.passbook = true then r.line else none
    ∃ t, exec .reply s = .next t
      ∧ t = { s with uplink := t.uplink, drawers := t.drawers, composer := t.composer, router := t.router, journal := t.journal
                     loop := t.loop, passbook := t.passbook }
      ∧ t.router = { s.router with
          table := s.router.table.filter fun x => x.tag ≠ e.tag
          counters := { s.router.counters with
            droppedLines := if r.line ≠ none ∧ k.passbook = false then min (s.router.counters.droppedLines + 1) 65535
              else s.router.counters.droppedLines } }
      ∧ t.uplink.rx = s.uplink.rx.tail ∧ t.uplink.control = s.uplink.control
      ∧ t.uplink = (if e.state = .queued then (s.uplink.afterGood.withdraw .request (tagField e.tag)).1 else s.uplink.afterGood)
      ∧ t.loop = (if k.cls = .signOn ∧ ((s.station e.station).state = .present ∨ (s.station e.station).state = .signed)
          then { s.loop with stations := put s.loop.stations (e.station - 1) signedOn } else s.loop)
      ∧ (∃ lost, t.journal.entries = s.journal.entries ++ [{ JEntry.ofKind .transaction with
            sequence, time := s.mgmt.clock, station := some e.station
            teller, drawer := e.drawer, txKind := some e.kind, account := e.account
            result := some .approved, legs := postedLegs s.tables e.legs, reference := r.reference }] ++ lost
          ∧ t.journal.counter = sequence + lost.length
          ∧ (handed = none → lost = [] ∧ t.passbook = s.passbook)
          ∧ ∀ l, handed = some l → t.passbook = (s.lineArrives l).1.passbook
              ∧ ((s.lineArrives l).2 ≠ .notRecorded → lost = [])
              ∧ ((s.lineArrives l).2 = .notRecorded →
                  (roomInUse s.journal s.router + 1 < Config.journalCapacity → lost = [{ JEntry.ofKind .passbookNotRecorded with
                    sequence := sequence + 1, time := s.mgmt.clock, account := some l.account, reference := some l.reference }])
                  ∧ (Config.journalCapacity ≤ roomInUse s.journal s.router + 1 →
                    lost = [] ∧ t.journal.omitted = min (s.journal.omitted + 1) 65535)))
      ∧ (e.legs = [] → t.drawers = s.drawers)
      ∧ (∀ d, e.drawer = some d → ∀ d', isDrawer d' = true → d' ≠ d → t.drawer d' = s.drawer d')
      ∧ (∀ d, e.drawer = some d → isDrawer d = true → e.legs ≠ [] →
          let posted := s.tables.judgeUnbalanced d (e.legs.foldl (fun x l =>
            (if l.dir = .cashOut then x.unreserve l else x).move l.dir l (s.tables.postedOf l).1.base (s.tables.postedOf l).2) (s.drawer d))
          t.drawer d = posted.reckoned s.tables d)
      ∧ (isStation e.station = true →
          ResultShown s t e.station (r.format.map fun n => (n, r.data)) ⟨.approved, sequence⟩)

/-- R49 to R55, R74, R158, R161: what ends a request of one station without posting, and the replies that match no entry. The deadline of an
entry, SENT or QUEUED: a QUEUED one's block is withdrawn, and unless it was, its OUT legs are in doubt; the timed-out counter rises. A
reply that declines, or that approves with other amounts or a SIGN-ON without a teller ID, which tells every supervisor. A late reply is
counted, and one that approves amounts while the day is OPEN or CLOSING is journaled when there is room, with the unanswered record
it matches, which is emptied. A malformed reply is counted. That a passbook line in a late reply does not raise the dropped-line counter
is the model's reading (log entry 49). The requests are those whose end closes no drawer; of a drawer that it closes in CLOSING
`ForceCloseAndFreeze` says what the notice comes to. -/
def Obligations.RequestsEndUnposted : Prop :=
  (∀ (s : State) (tag : Tag) (e : OutEntry), s.router.entry tag = some e → e.journalSeq = none → e.timer ≠ none → NoForceClose s e →
    let withdrawn := s.uplink.withdraw .request (tagField e.tag)
    ∃ t, exec (.deadlineExpiry tag) s = .next t
      ∧ t = { s with uplink := if e.state = .queued then withdrawn.1 else s.uplink, drawers := t.drawers, composer := t.composer
                     router := t.router, journal := t.journal }
      ∧ t.router.counters = { s.router.counters with timedOut := min (s.router.counters.timedOut + 1) 65535 }
      ∧ EndedUnposted s t e .timedOut none (decide (e.state = .sent) || !withdrawn.2))
  ∧ (∀ (s : State) (b : RxBlock) (r : Reply) (e : OutEntry) (k : KindEntry),
    HeadBlock s .reply b → readReply b.body = some r → s.router.entry (tagOf b.tag) = some e → e.journalSeq = none →
    s.tables.kind e.kind = some k → NoForceClose s e →
    (r.approved = false ∨ r.amounts ≠ e.legs.map Leg.amount ∨ k.cls = .signOn ∧ replyTeller r = none) →
    ∃ t, exec .reply s = .next t
      ∧ t = { s with
          uplink := if e.state = .queued then (s.uplink.afterGood.withdraw .request (tagField e.tag)).1 else s.uplink.afterGood
          drawers := t.drawers, composer := t.composer, router := t.router, journal := t.journal }
      ∧ t.router.counters = { s.router.counters with
          droppedLines := if r.line = none then s.router.counters.droppedLines else min (s.router.counters.droppedLines + 1) 65535 }
      ∧ EndedUnposted s t e (if r.approved = true then .mismatch else .declined) (some r) false
      ∧ (r.approved = true → ∀ a ∈ s.supervisors, a ≠ e.station → ⟨.replyMismatch, e.station⟩ ∈ (t.screen a).alerts))
  ∧ (∀ (s : State) (b : RxBlock) (r : Reply), HeadBlock s .reply b → readReply b.body = some r →
    s.router.entry (tagOf b.tag) = none →
    let tag := tagOf b.tag
    let counted : RouterCounters := { s.router.counters with lateReplies := min (s.router.counters.lateReplies + 1) 65535 }
    let journaled := r.approved = true ∧ r.amounts ≠ [] ∧ isStation tag.station = true ∧ (s.day.state = .opened ∨ s.day.state = .closing)
    let base : JEntry := { JEntry.ofKind .late with
      sequence := s.journal.counter + 1, time := s.mgmt.clock, station := some tag.station, result := some .late, reference := r.reference }
    (¬ journaled → exec .reply s = .next { s with uplink := s.uplink.afterGood, router := { s.router with counters := counted } })
    ∧ (journaled → ∃ t, exec .reply s = .next t
        ∧ t = { s with uplink := s.uplink.afterGood, router := t.router, journal := t.journal, composer := t.composer }
        ∧ (∀ a ∈ s.supervisors, ⟨.lateApproval, tag.station⟩ ∈ (t.screen a).alerts)
        ∧ (∀ u, look s.router.unanswered (tag.station - 1) = some u → u.tag = tag →
            t.router = { s.router with counters := counted, unanswered := put s.router.unanswered (tag.station - 1) none }
            ∧ (roomInUse s.journal s.router < Config.journalCapacity → t.journal.entries = s.journal.entries ++ [{ base with
                txKind := some u.kind, drawer := u.drawer, account := u.account
                legs := u.legs.map fun l => { l with inDoubt := true } }]))
        ∧ ((∀ u, look s.router.unanswered (tag.station - 1) = some u → u.tag ≠ tag) →
            t.router = { s.router with counters := counted }
            ∧ (roomInUse s.journal s.router < Config.journalCapacity → t.journal.entries = s.journal.entries ++ [base]))
        ∧ (Config.journalCapacity ≤ roomInUse s.journal s.router →
            t.journal = { s.journal with omitted := min (s.journal.omitted + 1) 65535 })))
  ∧ ∀ (s : State) (b : RxBlock), HeadBlock s .reply b → readReply b.body = none →
    exec .reply s = .next { s with
      uplink := s.uplink.afterGood
      router := { s.router with counters := { s.router.counters with
        badReplies := min (s.router.counters.badReplies + 1) 65535 } } }

/-- R47, R48, R60 to R62: the forwarder with the link UP and the day OPEN or CLOSING. For the UNFORWARDED entries that are neither carried nor
set aside, the lowest sequence first, it makes forward entries until 4 are in the table, the data queue is full or none is left: each in
QUEUED, with tag station 0 and the forwarder's sequence, the kind, station, drawer, account and legs of its journal entry, and its deadline
timer started, the rounding results as R71 gives them; its REQUEST block is offered. With any condition failing nothing changes. A reply takes
a forward entry from the table: approved, the journal entry it carries is FORWARDED and its passbook line is handed on where the kind allows
it; declined, it is DECLINED and every supervisor is told; each is counted, and no drawer changes. That a line not handed on is counted as
dropped is the model's reading (log entry 36). A deadline takes the entry from the table, and in CLOSING sets its journal entry aside; that no
counter rises then is the model's reading (log entry 35). That a forward entry is made though another holds its tag, and that one which holds
the tag of the one that ends leaves the table with it, is the model's choice (log entry 51). -/
def Obligations.ForwarderCarriesEntry : Prop :=
  (∀ s : State, s.journal.Sound →
    let waiting := s.journal.entries.filter fun y => y.forward = .unforwarded && !s.router.setAside.contains y.sequence
      && !s.router.table.any fun e => e.journalSeq = some y.sequence
    let room := if s.uplink.link = .up ∧ (s.day.state = .opened ∨ s.day.state = .closing) then
        min (Config.forwardEntries - s.router.forwardEntries.length) (Config.dataCapacity - s.uplink.data.length) else 0
    let taken := waiting.take room
    let sequence (i : Nat) := if i = 0 then s.router.forwarderSeq else (s.router.forwarderSeq + i) % 256
    let timeout := if s.params.replyTimeout = 0 then 30 else s.params.replyTimeout
    ∃ t, exec .forwarderOffer s = .next t
      ∧ t = { s with
          uplink := { s.uplink with
            data := s.uplink.data ++ taken.mapIdx fun i x => ⟨.request, tagField ⟨0, sequence i⟩, forwardBody x⟩ }
          router := t.router }
      ∧ ∃ made, t.router = { s.router with table := s.router.table ++ made, forwarderSeq := sequence taken.length }
        ∧ made.length = taken.length
        ∧ ∀ (i : Nat) (x : JEntry) (e : OutEntry), taken[i]? = some x → made[i]? = some e →
            e.tag = ⟨0, sequence i⟩ ∧ e.state = .queued ∧ e.journalSeq = some x.sequence
            ∧ (∀ k, x.txKind = some k → e.kind = k) ∧ (∀ a, x.station = some a → e.station = a) ∧ e.drawer = x.drawer
            ∧ e.account = x.account ∧ e.acceptance = s.mgmt.clock ∧ e.deadline = s.mgmt.clock + timeout
            ∧ e.timer = some (1000 * timeout)
            ∧ (e.legs.map fun l => (l.currency, l.dir, l.amount, l.cash, l.rounding))
              = x.legs.map fun l => (l.currency, l.dir, l.amount, l.cash, roundingResult l.dir l.amount l.cash))
  ∧ (∀ (s : State) (b : RxBlock) (r : Reply) (e : OutEntry) (n : Nat), HeadBlock s .reply b → readReply b.body = some r →
    s.router.entry (tagOf b.tag) = some e → e.journalSeq = some n →
    let forwarded := s.journal.setForward n (if r.approved = true then .forwarded else .declined)
    let handed := if r.approved = true ∧ (s.tables.kind e.kind).any KindEntry.passbook = true then r.line else none
    let counters : RouterCounters := { s.router.counters with
      droppedLines := if r.line = none ∨ handed ≠ none then s.router.counters.droppedLines
        else min (s.router.counters.droppedLines + 1) 65535 }
    ∃ t, exec .reply s = .next t
      ∧ t = { s with
          uplink := if e.state = .queued then (s.uplink.afterGood.withdraw .request (tagField e.tag)).1 else s.uplink.afterGood
          router := t.router, journal := t.journal, composer := t.composer, passbook := t.passbook }
      ∧ t.router = { s.router with table := s.router.table.filter (fun x => x.tag ≠ e.tag), counters := t.router.counters }
      ∧ (r.approved = true → StatusLinesOnly s.composer t.composer ∧ (handed = none → t.composer = s.composer)
          ∧ t.router.counters = { counters with forwarded := min (s.router.counters.forwarded + 1) 65535 })
      ∧ (r.approved = false → (∀ a ∈ s.supervisors, ⟨.standInDeclined, n⟩ ∈ (t.screen a).alerts)
          ∧ (∀ a, isStation a = true → a ∉ s.supervisors → t.screen a = s.screen a)
          ∧ t.router.counters = { counters with forwardDeclined := min (s.router.counters.forwardDeclined + 1) 65535 })
      ∧ (handed = none → t.journal = forwarded ∧ t.passbook = s.passbook)
      ∧ (∀ l, handed = some l → t.passbook = (s.lineArrives l).1.passbook
          ∧ ((s.lineArrives l).2 ≠ .notRecorded → t.journal = forwarded)
          ∧ ((s.lineArrives l).2 = .notRecorded →
              (roomInUse s.journal t.router < Config.journalCapacity →
                t.journal.entries = forwarded.entries ++ [{ JEntry.ofKind .passbookNotRecorded with
                  sequence := s.journal.counter + 1, time := s.mgmt.clock, account := some l.account, reference := some l.reference }])
              ∧ (Config.journalCapacity ≤ roomInUse s.journal t.router →
                  t.journal = { forwarded with omitted := min (s.journal.omitted + 1) 65535 })))
      ∧ ∀ y ∈ s.journal.entries, y.sequence = n → y.forward = .unforwarded →
          forwarded.unforwarded = s.journal.unforwarded - 1
          ∧ forwarded.entries = s.journal.entries.map fun x =>
              if x.sequence = n then { x with forward := if r.approved = true then .forwarded else .declined } else x)
  ∧ ∀ (s : State) (tag : Tag) (e : OutEntry) (n : Nat), s.router.entry tag = some e → e.journalSeq = some n → e.timer ≠ none →
    exec (.deadlineExpiry tag) s = .next { s with
      uplink := if e.state = .queued then (s.uplink.withdraw .request (tagField e.tag)).1 else s.uplink
      router := { s.router with
        table := s.router.table.filter fun x => x.tag ≠ e.tag
        setAside := if s.day.state = .closing then s.router.setAside ++ [n] else s.router.setAside } }

/-- R109: a BULLETIN of 1 to 80 characters is the latest bulletin text and the bulletin number rises by one, modulo 65,536. Every SIGNED
station holds a BULLETIN alert with that number: one it held already has its parameter replaced in its place, else it joins the queue at the
tail, in a full queue of four after the removal of the second. Other stations keep their alerts, and row 24 of every screen whose head
is a BULLETIN alert shows the new text. A text that is empty or longer is counted and changes nothing else. -/
def Obligations.BulletinIsShown : Prop :=
  ∀ (s : State) (b : RxBlock), HeadBlock s .bulletin b →
    ∃ t, exec .bulletin s = .next t
      ∧ t = { s with uplink := s.uplink.afterGood, composer := t.composer }
      ∧ (1 ≤ b.body.length → b.body.length ≤ 80 →
          t.composer.bulletinText = some b.body
          ∧ t.composer.bulletinNumber = (s.composer.bulletinNumber + 1) % 65536
          ∧ t.composer.badBulletin = s.composer.badBulletin ∧ t.composer.unknownFormat = s.composer.unknownFormat
          ∧ ∀ a, isStation a = true →
              let new : Alert := ⟨.bulletin, t.composer.bulletinNumber⟩
              let holds := (s.screen a).alerts.any fun x => x.alert = .bulletin
              (∀ r, 1 ≤ r → r ≤ 23 → (t.screen a).row r = (s.screen a).row r)
              ∧ (∀ x rest, (t.screen a).alerts = x :: rest → x.alert = .bulletin →
                  (t.screen a).row 24 = alertRow (some b.body) (t.screen a).alerts)
              ∧ ((s.station a).state ≠ .signed → (t.screen a).alerts = (s.screen a).alerts
                  ∧ (t.screen a).alertsLost = (s.screen a).alertsLost)
              ∧ ((s.station a).state = .signed → holds = true → (t.screen a).alertsLost = (s.screen a).alertsLost
                  ∧ (t.screen a).alerts = (s.screen a).alerts.map fun x => if x.alert = .bulletin then new else x)
              ∧ ((s.station a).state = .signed → holds = false → (s.screen a).alerts.length < 4 →
                  (t.screen a).alerts = (s.screen a).alerts ++ [new] ∧ (t.screen a).alertsLost = (s.screen a).alertsLost)
              ∧ ((s.station a).state = .signed → holds = false → ∀ w x y z, (s.screen a).alerts = [w, x, y, z] →
                  (t.screen a).alerts = [w, y, z, new] ∧ (t.screen a).alertsLost = min ((s.screen a).alertsLost + 1) 255))
      ∧ ((b.body.length = 0 ∨ 80 < b.body.length) →
          t.composer = { s.composer with badBulletin := min (s.composer.badBulletin + 1) 65535 })

/-! ### Printer ports -/

/-- R117 to R122, R127 to R129, R145, R207: the dialogue at a port. ATTEND with the interlock closed, in SELECTING, stops the select timer and
waits for a phase with the step timer at 2 s; at any other moment, or with the interlock open, it is ignored. A phase request begins the
phase its code names. ORDER-OUT and DATA-OUT drive the byte at the position, 00h beyond the last, and move it on; DATA-IN takes a byte, of
which those beyond the 256th mark the return overlong; STATE-IN takes GOOD, CHECK or BUSY and waits for a phase. CLOSE-IN after BUSY, below
the sixth attempt of an order that no poll carries, ends in RETRY WAIT, and after CHECK begins the SENSE; an end byte other than 00h reports
a printer reset, after which no layout is loaded. What aborts a poll of an IDLE port leaves it NOT READY with a reset pulse. A poll that
closes GOOD makes the port IDLE or ATTENTION, and a book seen there for the first time begins a job. That phase and byte requests in
SELECTING are ignored, that a phase request starts the step timer again, and that one in STATE-IN or CLOSE-IN before its byte begins the
new phase, is the model's choice (log entry 22), and so is what the record of a new job holds before its stripe is judged (log entry 40). -/
def Obligations.PortDialogues : Prop :=
  ∀ (s : State) (p : Nat), isPort p = true →
    (((s.port p).dialogue = .selecting → exec (.attend p true) s = .next { s with ports := put s.ports (p - 1) { s.port p with
        dialogue := .waiting, selectTimer := none, stepTimer := some 2000 } })
    ∧ (∀ interlock, (s.port p).dialogue ≠ .selecting → exec (.attend p interlock) s = .next s)
    ∧ exec (.attend p false) s = .next s
    ∧ (∀ (code : BitVec 3) (d : Dialogue), (s.port p).dialogue.attended = true → phaseOf code = some d →
        exec (.phaseRequest p code) s = .next { s with ports := put s.ports (p - 1) { s.port p with
        dialogue := d, stepTimer := some 2000 } })
    ∧ ∀ code, (s.port p).dialogue.attended = false → exec (.phaseRequest p code) s = .next s)
    ∧ (∀ byte : Byte,
    let r := s.port p
    ((r.dialogue = .orderOut → exec (.byteRequest p byte) s = .next { s with ports := put s.ports (p - 1) { r with
        byteOut := some (r.carried.bytes.getD r.orderPos 0), orderPos := min (r.orderPos + 1) r.carried.bytes.length
        stepTimer := some 2000 } })
    ∧ (r.dialogue = .dataOut → exec (.byteRequest p byte) s = .next { s with ports := put s.ports (p - 1) { r with
        byteOut := some (r.carried.data.getD r.dataPos 0), dataPos := min (r.dataPos + 1) r.carried.data.length
        stepTimer := some 2000 } })
    ∧ (r.dialogue = .dataIn → exec (.byteRequest p byte) s = .next { s with ports := put s.ports (p - 1) { r with
        returned := if r.returned.length < 256 then r.returned ++ [byte] else r.returned
        overlong := r.overlong || decide (256 ≤ r.returned.length), stepTimer := some 2000 } })
    ∧ (r.dialogue = .stateIn → (byte = 0x00 ∨ byte = 0x02 ∨ byte = 0x08) →
        exec (.byteRequest p byte) s = .next { s with ports := put s.ports (p - 1) { r with
          status := some byte, dialogue := .waiting, stepTimer := some 2000 } })
    ∧ (r.dialogue = .closeIn → r.status = some 0x08 → r.poll = false → r.sensing = false → r.attempts < 6 →
        exec (.byteRequest p byte) s = .next { s with ports := put s.ports (p - 1) { r with
          dialogue := .retryWait, retryTimer := some 250, selectTimer := none, stepTimer := none, due := false, byteOut := none
          loaded := if byte = 0 then r.loaded else none
          counters := { r.counters with
            dialogues := min (r.counters.dialogues + 1) 65535, busies := min (r.counters.busies + 1) 65535
            resets := if byte = 0 then r.counters.resets else min (r.counters.resets + 1) 65535 } } })
    ∧ ((r.dialogue = .none ∨ r.dialogue = .selecting ∨ r.dialogue = .waiting ∨ r.dialogue = .retryWait) →
        exec (.byteRequest p byte) s = .next s)
    ∧ (r.dialogue = .closeIn → r.status = some 0x02 → r.sensing = false →
        ∃ t, exec (.byteRequest p byte) s = .next t ∧ t = { s with ports := put s.ports (p - 1) (t.port p) }
          ∧ (t.port p).sensing = true ∧ (t.port p).order = r.order ∧ (t.port p).state = r.state
          ∧ (t.port p).counters = { r.counters with
              dialogues := min (r.counters.dialogues + 1) 65535, checks := min (r.counters.checks + 1) 65535
              resets := if byte = 0 then r.counters.resets else min (r.counters.resets + 1) 65535 }
          ∧ (r.pulseTimer = none → (t.port p).dialogue = .selecting ∧ (t.port p).selectTimer = some 50)
          ∧ (r.pulseTimer ≠ none → (t.port p).dialogue = .none ∧ (t.port p).due = true))
    ∧ (r.dialogue = .closeIn → r.status = some 0x00 → r.sensing = false → r.poll = true →
        r.order.map Order.kind = some .statusRequest → ∀ x, readStatusRecord r.returned = some x → r.overlong = false →
        (r.state = .notReady ∨ r.state = .idle ∨ r.state = .attention) →
        ∃ t, exec (.byteRequest p byte) s = .next t
          ∧ t = { s with ports := t.ports, composer := t.composer, passbook := t.passbook }
          ∧ (t.port p).lastStatus = some x ∧ (∀ q, isPort q = true → q ≠ p → t.port q = s.port q ∧ t.job q = s.job q)
          ∧ (x.ready = false → (t.port p).state = (if r.state = .notReady then .notReady else .attention)
              ∧ (t.port p).pollTimer = some 500 ∧ t.passbook = s.passbook
              ∧ (t.port p).attention
                  = if r.state = .notReady then r.attention else if x.cover = true then .coverOpen else .paperJam)
          ∧ (x.ready = true → (x.book = false ∨ r.bookSeen = true) → (t.port p).state = .idle ∧ (t.port p).pollTimer = some 500
              ∧ (t.port p).bookSeen = x.book ∧ t.passbook = s.passbook)
          ∧ (x.ready = true → x.book = true → r.bookSeen = false →
              (t.port p).state = .busy ∧ (t.port p).claimed = true ∧ (t.port p).bookSeen = true
              ∧ (t.port p).counters.books = min (r.counters.books + 1) 65535
              ∧ ((s.day.state = .opened ∨ s.day.state = .closing) →
                  (t.port p).order = some (Order.plain .readStripe)
                  ∧ t.passbook.counters = { s.passbook.counters with jobs := min (s.passbook.counters.jobs + 1) 65535 }
                  ∧ (s.job p = none → t.job p = some (Job.fresh .reading))
                  ∧ ∀ j, s.job p = some j → t.job p = some { j with
                      state := .reading, returning := true, stripe := none, inPrint := none, endAlert := none, ejecting := false
                      failed := false })
              ∧ (s.day.state ≠ .opened → s.day.state ≠ .closing → t.passbook.counters = s.passbook.counters
                  ∧ JobEnding s t p ((s.job p).getD (Job.fresh .ending)) (some ⟨.branchClosed, p⟩))))))
    ∧ ∀ c, DialogueAborts s p c → (s.port p).poll = true → (s.port p).state = .idle →
        ∃ t, exec c s = .next t ∧ t = { s with ports := t.ports, composer := t.composer } ∧ StatusLinesOnly s.composer t.composer
          ∧ (t.port p).state = .notReady ∧ (t.port p).dialogue = .none ∧ (t.port p).pulseTimer = some 10 ∧ (t.port p).due = true
          ∧ (t.port p).loaded = none ∧ (t.port p).readyTimer = some 10000 ∧ (t.port p).bookSeen = false
          ∧ (t.port p).order = some (Order.plain .statusRequest) ∧ (t.port p).poll = true
          ∧ (t.port p).counters.aborts = min ((s.port p).counters.aborts + 1) 65535
          ∧ ∀ q, isPort q = true → q ≠ p → t.port q = s.port q

/-- R117, R119, R127 to R131, R150: timers that end a dialogue. A poll of an IDLE port unanswered, or broken off by the step timer with a reset
pulse, leaves the port NOT READY, its ready wait running and a poll due. A READ STRIPE of a claimed port unanswered ends the job's
reading: it is ENDING, an EJECT is given, and readiness is noted as lost. The ready wait's end makes a NOT READY port FAILED without a
pulse. No other port's record changes. -/
def Obligations.DialogueTimersExpire : Prop :=
  ∀ (s : State) (p : Nat), isPort p = true →
    let r := s.port p
    (∀ c, (c = .selectTimer p ∧ r.dialogue = .selecting ∧ r.selectTimer ≠ none
            ∨ c = .phaseStepTimer p ∧ r.dialogue.attended = true ∧ r.stepTimer ≠ none) →
        r.poll = true → r.state = .idle →
        ∃ t, exec c s = .next t ∧ t = { s with ports := t.ports, composer := t.composer }
          ∧ StatusLinesOnly s.composer t.composer
          ∧ (t.port p).state = .notReady ∧ (t.port p).readyTimer = some 10000 ∧ (t.port p).bookSeen = false
          ∧ (t.port p).poll = true ∧ (t.port p).order = some (Order.plain .statusRequest)
          ∧ (c = .selectTimer p → r.pulseTimer = none → (t.port p).dialogue = .selecting ∧ (t.port p).pulseTimer = none
              ∧ (t.port p).counters = { r.counters with noAnswers := min (r.counters.noAnswers + 1) 65535 })
          ∧ (c = .phaseStepTimer p → (t.port p).dialogue = .none ∧ (t.port p).due = true
              ∧ (t.port p).pulseTimer = some 10 ∧ (t.port p).loaded = none
              ∧ (t.port p).counters = { r.counters with aborts := min (r.counters.aborts + 1) 65535 })
          ∧ ∀ q, isPort q = true → q ≠ p → t.port q = s.port q)
    ∧ (∀ j o, r.dialogue = .selecting → r.selectTimer ≠ none → r.poll = false → r.claimed = true → r.order = some o →
        o.kind = .readStripe → s.job p = some j →
        ∃ t, exec (.selectTimer p) s = .next t ∧ t = { s with ports := t.ports, passbook := t.passbook }
          ∧ t.job p = some { j with state := .ending, endAlert := none, ejecting := true, failed := true }
          ∧ t.passbook.slots = s.passbook.slots ∧ t.passbook.settlements = s.passbook.settlements
          ∧ t.passbook.counters = { s.passbook.counters with failedJobs := min (s.passbook.counters.failedJobs + 1) 65535 }
          ∧ (t.port p).order = some (Order.plain .eject) ∧ (t.port p).readinessLost = true ∧ (t.port p).claimed = true
          ∧ ∀ q, isPort q = true → q ≠ p → t.port q = s.port q ∧ t.job q = s.job q)
    ∧ (r.state = .notReady → r.readyTimer ≠ none →
        ∃ t, exec (.readyWait p) s = .next t
          ∧ t = { s with ports := t.ports, composer := t.composer, passbook := t.passbook }
          ∧ StatusLinesOnly s.composer t.composer
          ∧ (t.port p).state = .failed ∧ (t.port p).dialogue = .none ∧ (t.port p).order = none
          ∧ (t.port p).readyTimer = none ∧ (t.port p).pollTimer = none ∧ (t.port p).pulseTimer = r.pulseTimer
          ∧ (∀ j, s.job p = some j → j.state = .turnWait → t.job p = none)
          ∧ ∀ q, isPort q = true → q ≠ p → t.port q = s.port q ∧ t.job q = s.job q)

/-- R116, R117, R121, R128: timers that begin a dialogue. The end of a reset pulse begins a dialogue that fell due during it, if one did; the end
of a retry wait carries the same order again with its attempt count raised; the end of a poll interval carries a STATUS REQUEST. -/
def Obligations.DialogueTimersBegin : Prop :=
  ∀ (s : State) (p : Nat), isPort p = true →
    let r := s.port p
    (r.pulseTimer ≠ none → r.due = false →
      exec (.portResetEnd p) s = .next { s with ports := put s.ports (p - 1) { r with pulseTimer := none } })
    ∧ (r.pulseTimer ≠ none → r.due = true → ∃ t, exec (.portResetEnd p) s = .next t
        ∧ t = { s with ports := put s.ports (p - 1) (t.port p) }
        ∧ (t.port p).pulseTimer = none ∧ (t.port p).due = false ∧ (t.port p).dialogue = .selecting
        ∧ (t.port p).selectTimer = some 50 ∧ (t.port p).order = r.order ∧ (t.port p).counters = r.counters)
    ∧ (r.dialogue = .retryWait → r.retryTimer ≠ none → r.pulseTimer = none → r.sensing = false →
        ∃ t, exec (.retryTimer p) s = .next t
        ∧ t = { s with ports := put s.ports (p - 1) (t.port p) }
        ∧ (t.port p).dialogue = .selecting ∧ (t.port p).selectTimer = some 50 ∧ (t.port p).retryTimer = none
        ∧ (t.port p).attempts = r.attempts + 1 ∧ (t.port p).order = r.order ∧ (t.port p).status = none
        ∧ (t.port p).returned = [] ∧ (t.port p).orderPos = 0 ∧ (t.port p).dataPos = 0)
    ∧ (r.pollTimer ≠ none → r.pulseTimer = none →
        ∃ t, exec (.pollTimer p) s = .next t
        ∧ t = { s with ports := put s.ports (p - 1) (t.port p) }
        ∧ (t.port p).dialogue = .selecting ∧ (t.port p).selectTimer = some 50 ∧ (t.port p).pollTimer = none
        ∧ (t.port p).poll = true ∧ (t.port p).order = some (Order.plain .statusRequest) ∧ (t.port p).attempts = 1
        ∧ (t.port p).state = r.state ∧ (t.port p).counters = r.counters)

/-- R120 to R122, R130, R145 to R151: the orders of a print job as they end. READ STRIPE GOOD: with the day OPEN or CLOSING the stripe is
judged, a test that fails ends the job with its alert, and otherwise it is PRINTING with its next order; in another state it ends
BRANCH CLOSED. SET LAYOUT GOOD leads to the next order. PRINT LINE: GOOD or STRIPE WRITE FAILED removes the line and counts it; after
GOOD the job goes on, turns the page, or ends; after any other outcome the line stays unmarked and the failure table applies. In a frozen
day a PRINT LINE leaves the store alone and a settlement, and the job ends BRANCH CLOSED. EJECT: the claim is released and the record is
cleared, or waits for the book; that a failing EJECT is counted once for the job, and that readiness lost
is judged from the claim on, is the model's reading (log entries 20 and 41). -/
def Obligations.PrintJobsGoOn : Prop :=
  ∀ (s : State) (p : Nat) (c : Instr) (kind : OrderKind) (o : OrderOutcome) (j : Job), OrderEnds s p c kind o → s.job p = some j →
    let business := s.day.state = .opened ∨ s.day.state = .closing
    ∃ t, exec c s = .next t
      ∧ t = { s with ports := t.ports, composer := t.composer, passbook := t.passbook }
      ∧ (∀ q, isPort q = true → q ≠ p → t.port q = s.port q ∧ t.job q = s.job q)
      ∧ (kind ≠ .printLine → t.passbook.settlements = s.passbook.settlements)
      ∧ (kind = .readStripe → ∀ bytes x page, o = .good bytes → readStripeReturn bytes = some (x, page) →
          let judged : Job := { j with stripe := some x, page := x.page, u := x.u }
          (¬ business → t.passbook.slots = s.passbook.slots ∧ JobEnding s t p j (some ⟨.branchClosed, p⟩))
          ∧ (business → ∀ al, s.judgeStripe p x page = some al → t.passbook.slots = s.passbook.slots
              ∧ JobEnding s t p judged (some al)
              ∧ t.passbook.counters = { s.passbook.counters with
                  stripeBad := (if al.alert = .stripeInvalid then min (s.passbook.counters.stripeBad + 1) 65535
                    else s.passbook.counters.stripeBad) })
          ∧ (business → s.judgeStripe p x page = none → ∀ b, s.tables.layout x.bookType = some b →
              t.passbook.counters = s.passbook.counters
              ∧ NextOrderGiven s t p { judged with
                  state := .printing, page := if x.u = b.usableCount then x.page + 1 else x.page
                  u := if x.u = b.usableCount then 0 else x.u } x s.passbook))
      ∧ (kind = .setLayout → ∀ bytes x, o = .good bytes → j.stripe = some x →
          (¬ business → JobEnding s t p j (some ⟨.branchClosed, p⟩)) ∧ (business → NextOrderGiven s t p j x s.passbook))
      ∧ ((kind = .readStripe ∨ kind = .setLayout) → (∀ bytes, o ≠ .good bytes) →
          JobFails s t p j kind o ∧ t.passbook.slots = s.passbook.slots
          ∧ ((o = .noAnswer ∨ o = .aborted) → JobEnding s t p { j with failed := true } none ∧ (t.port p).readinessLost = true))
      ∧ (kind = .printLine → s.day.state.frozen = false → ∀ x ref, j.stripe = some x → j.inPrint = some ref →
          let j' : Job := { j with inPrint := none, u := j.u + 1, printed := min (j.printed + 1) 9999 }
          let store := s.passbook.removeLine x.account ref
          t.passbook.settlements = s.passbook.settlements
          ∧ (∀ k, o = .check k → k.sense = .stripeWriteFailed → t.passbook.slots = store.slots
              ∧ t.passbook.counters.linesPrinted = min (s.passbook.counters.linesPrinted + 1) 65535
              ∧ JobEnding s t p j' (some ⟨.stripeNotUpdated, p⟩))
          ∧ (∀ bytes, o = .good bytes → t.passbook.counters.linesPrinted = min (s.passbook.counters.linesPrinted + 1) 65535
              ∧ (store.linesOf x.account = [] → t.passbook.slots = store.slots ∧ JobEnding s t p j' none)
              ∧ (store.linesOf x.account ≠ [] → ∀ b, s.tables.layout x.bookType = some b →
                  (j'.u = b.usableCount → j.page = b.pagesPerBook → t.passbook.slots = store.slots
                      ∧ JobEnding s t p j' (some ⟨.bookFull, p⟩))
                  ∧ (j'.u = b.usableCount → j.page ≠ b.pagesPerBook → t.passbook.slots = store.slots
                      ∧ t.job p = some { j' with state := .turnWait, ejecting := true }
                      ∧ (t.port p).order = some (Order.plain .eject) ∧ (t.port p).claimed = true
                      ∧ ∀ a ∈ s.stationsOfPort p, ⟨.turnPage, j.page + 1⟩ ∈ (t.screen a).alerts)
                  ∧ (j'.u ≠ b.usableCount → business → NextOrderGiven s t p j' x store)))
          ∧ ((∀ bytes, o ≠ .good bytes) → (∀ k, o = .check k → k.sense ≠ .stripeWriteFailed) →
              t.passbook.slots = (s.passbook.markLine x.account ref false).slots
              ∧ JobFails s t p { j with inPrint := none } kind o
              ∧ ((o = .noAnswer ∨ o = .aborted) → JobEnding s t p { j with inPrint := none, failed := true } none)))
      ∧ (kind = .printLine → s.day.state.frozen = true → ∀ x ref, j.stripe = some x → j.inPrint = some ref →
          t.passbook.slots = s.passbook.slots
          ∧ look t.passbook.settlements (p - 1) = some ⟨x.account, ref, o.printed⟩
          ∧ (∀ q, isPort q = true → q ≠ p → look t.passbook.settlements (q - 1) = look s.passbook.settlements (q - 1))
          ∧ ((o = .busyLimit ∨ ∃ k, o = .check k ∧ k.sense = .noBook) → JobFails s t p { j with inPrint := none } kind o)
          ∧ (o ≠ .busyLimit → (∀ k, o = .check k → k.sense ≠ .noBook) →
              JobEnding s t p { j with inPrint := none } (some ⟨.branchClosed, p⟩)))
      ∧ (kind = .eject →
          let waits := business ∧ (j.state = .turnWait
            ∨ j.state = .ending ∧ j.returning = true ∧ ∃ al, j.endAlert = some al ∧ al.alert = .openPage)
          ClaimReleased s t p o ∧ t.passbook.slots = s.passbook.slots
          ∧ (waits → t.job p = some { j with state := .turnWait, returning := false, endAlert := none, ejecting := false }
              ∧ t.passbook.counters = s.passbook.counters)
          ∧ (¬ waits → t.job p = none
              ∧ ((∃ bytes, o = .good bytes) ∨ j.failed = true → t.passbook.counters = s.passbook.counters)
              ∧ ((∀ bytes, o ≠ .good bytes) → j.failed = false → t.passbook.counters = { s.passbook.counters with
                  failedJobs := min (s.passbook.counters.failedJobs + 1) 65535 })))

/-! ### The business day -/

/-- R86, R161, R172 to R176: in CLOSING the notice that a drawer of the close-pending set holds no reserved count closes it, and with room in
the journal a DRAWER CLOSED entry is written, else counted as omitted; any other notice does nothing. The freeze, judged in CLOSING with
an empty table and nothing left to forward, or with the link not UP, closes in drawer order the drawers still close-pending, fixes the
description of the records as they then stand, the drawers that moved or hold something and the first segment of each section among
them, clears the jobs in TURN WAIT, and makes the day CLOSED; where the condition fails, and in another state, nothing happens. -/
def Obligations.ForceCloseAndFreeze : Prop :=
  (∀ (s : State) (d : Nat), isDrawer d = true → s.day.state = .closing → d ∈ s.day.closePending →
    (s.drawer d).hasReserved = false →
    ∃ t, exec (.forceClose d) s = .next t
      ∧ t = { s with drawers := t.drawers, day := t.day, journal := t.journal, composer := t.composer }
      ∧ StatusLinesOnly s.composer t.composer ∧ ForceClosed s t [d]
      ∧ t.day = { s.day with closePending := s.day.closePending.filter (· ≠ d) })
  ∧ (∀ (s : State) (d : Nat), isDrawer d = true →
      (s.day.state ≠ .closing ∨ d ∉ s.day.closePending ∨ (s.drawer d).hasReserved = true) → exec (.forceClose d) s = .next s)
  ∧ (∀ s : State, s.day.state = .closing → s.router.table = [] →
      (s.uplink.link ≠ .up ∨ ∀ e ∈ s.journal.entries, e.forward = .unforwarded → e.sequence ∈ s.router.setAside) →
      ∃ t f, exec .freeze s = .next t
        ∧ t = { s with drawers := t.drawers, journal := t.journal, day := t.day, passbook := t.passbook, composer := t.composer }
        ∧ StatusLinesOnly s.composer t.composer
        ∧ ForceClosed s t ((List.range 17).filter fun d => d ∈ s.day.closePending)
        ∧ (s.day.closePending = [] → t.drawers = s.drawers ∧ t.journal = s.journal)
        ∧ t.day = { s.day with
            state := .closed, freeze := some f, closePending := s.day.closePending.filter fun d => isDrawer d = false }
        ∧ f.Describes t ∧ t.passbook.slots = s.passbook.slots
        ∧ ∀ p j, isPort p = true → s.job p = some j → t.job p = (if j.state = .turnWait then none else some j))
  ∧ (∀ s : State, s.day.state = .closing →
      (s.router.table ≠ []
        ∨ s.uplink.link = .up ∧ ∃ e ∈ s.journal.entries, e.forward = .unforwarded ∧ e.sequence ∉ s.router.setAside) →
      exec .freeze s = .next s)
  ∧ (∀ s : State, s.day.state ≠ .closing → exec .freeze s = .next s)

/-- R180, R181: a CLOSED day with the link UP passes to SENDING with the sender cleared. In SENDING with the link UP and room for four blocks, the
sender offers every segment from the pointer on that is below base + 4 and not above N, in order, and the pointer passes them. -/
def Obligations.SendingBeginsAndOffers : Prop :=
  (∀ s : State, s.day.state = .closed → s.uplink.link = .up →
    ∃ t, exec .sendAttemptStart s = .next t ∧ t = { s with day := t.day, composer := t.composer }
      ∧ StatusLinesOnly s.composer t.composer
      ∧ t.day = { s.day with state := .sending, base := 1, pointer := 1, highest := 0, retries := 0, timer := none })
  ∧ (∀ s : State, (s.day.state ≠ .closed ∨ s.uplink.link ≠ .up) → exec .sendAttemptStart s = .next s)
  ∧ ∀ (s : State) (f : FreezeDesc), s.day.state = .sending → s.uplink.link = .up → s.day.freeze = some f →
      s.uplink.data.length + 4 ≤ Config.dataCapacity → s.day.base ≤ s.day.pointer →
      let n := min (s.day.base + 4) (f.segments + 1) - s.day.pointer
      exec .eodSegmentOffer s = .next { s with
        uplink := { s.uplink with data := s.uplink.data ++ (List.range' s.day.pointer n).map (s.segmentBlock f) }
        day := { s.day with
          pointer := s.day.pointer + n
          counters := { s.day.counters with
            offered := if n = 0 then s.day.counters.offered else min (s.day.counters.offered + n) 65535 } } }

/-- R183, R184: an EOD ACK. Taken in SENDING, with base ≤ k ≤ highest sent: NONE with k below N moves base up to k + 1 and starts the timer again
at 4 s if the pointer is above base, and stops it otherwise; ACCEPTED and REJECTED with k equal to N stop it and make the day SENT and
REJECTED. Blocks of segments up to k are withdrawn. Any other is discarded and counted. -/
def Obligations.EodAckMovesBase : Prop :=
  ∀ (s : State) (b : RxBlock), HeadBlock s .eodAck b →
    let k := b.tag
    let n := s.day.segments
    let inRange := s.day.state = .sending ∧ s.day.base ≤ k ∧ k ≤ s.day.highest
    let withdrawn := s.uplink.afterGood.withdrawSegments fun j => j ≤ k
    let pointer := max s.day.pointer (k + 1)
    (inRange → b.body = [0] → k < n → exec .eodAck s = .next { s with
        uplink := withdrawn
        day := { s.day with base := k + 1, pointer := pointer, timer := if k + 1 < pointer then some 4000 else none } })
    ∧ (∀ verdict, inRange → k = n → (verdict = 1 ∨ verdict = 2) → b.body = [verdict] →
        ∃ t, exec .eodAck s = .next t ∧ t = { s with uplink := withdrawn, day := t.day, composer := t.composer }
          ∧ StatusLinesOnly s.composer t.composer
          ∧ t.day = { s.day with
              base := k + 1, pointer := pointer, timer := none, state := if verdict = 1 then .sent else .rejected })
    ∧ (¬ (inRange ∧ (b.body = [0] ∧ k < n ∨ (b.body = [1] ∨ b.body = [2]) ∧ k = n)) → exec .eodAck s = .next { s with
        uplink := s.uplink.afterGood
        day := { s.day with counters := { s.day.counters with ignored := min (s.day.counters.ignored + 1) 65535 } } })

/-- R182, R185: an EOD NAK with an empty body, in SENDING, with base ≤ k ≤ highest sent, makes the sender go back to k: the pointer is k, and
the blocks of segment k and above are withdrawn; the timer and the retry count stay. Any other is discarded and counted. -/
def Obligations.EodNakGoesBack : Prop :=
  ∀ (s : State) (b : RxBlock), HeadBlock s .eodNak b →
    let k := b.tag
    let good := b.body = [] ∧ s.day.state = .sending ∧ s.day.base ≤ k ∧ k ≤ s.day.highest
    (good → ∃ t, exec .eodNak s = .next t
      ∧ t = { s with uplink := t.uplink, day := { s.day with pointer := k } }
      ∧ t.uplink = { s.uplink.afterGood with data := t.uplink.data, sending := t.uplink.sending }
      ∧ t.uplink.data = s.uplink.data.filter (fun x => x.cls ≠ .eodSeg ∨ x.tag < k)
      ∧ t.uplink.sending = s.uplink.sending.map fun x =>
          if x.block.cls = .eodSeg ∧ k ≤ x.block.tag then { x with broken := true } else x)
    ∧ (¬ good → exec .eodNak s = .next { s with
        uplink := s.uplink.afterGood
        day := { s.day with counters := { s.day.counters with ignored := min (s.day.counters.ignored + 1) 65535 } } })

/-- R182, R186: the acknowledgement timer expires in SENDING: the retry count and the timeout counter rise and the timer stops. At 8 retries the
day is FAILED and no EOD SEG is left in the data queue; below 8 the sender goes back to base. -/
def Obligations.AckTimerRetries : Prop :=
  ∀ s : State, s.day.state = .sending → s.day.timer ≠ none →
    ∃ t, exec .ackTimer s = .next t
      ∧ t = { s with uplink := t.uplink, day := t.day, composer := t.composer }
      ∧ t.day = { s.day with
          retries := s.day.retries + 1, timer := none, state := t.day.state, pointer := t.day.pointer
          counters := { s.day.counters with timeouts := min (s.day.counters.timeouts + 1) 65535 } }
      ∧ t.uplink = { s.uplink with data := t.uplink.data, sending := t.uplink.sending }
      ∧ (s.day.retries + 1 = 8 → t.day.state = .failed ∧ t.day.pointer = s.day.pointer
          ∧ StatusLinesOnly s.composer t.composer ∧ t.uplink.data = s.uplink.data.filter (fun x => x.cls ≠ .eodSeg)
          ∧ t.uplink.sending = s.uplink.sending.map fun x => if x.block.cls = .eodSeg then { x with broken := true } else x)
      ∧ (s.day.retries + 1 ≠ 8 → t.day.state = .sending ∧ t.day.pointer = s.day.base ∧ t.composer = s.composer
          ∧ t.uplink.data = s.uplink.data.filter (fun x => x.cls ≠ .eodSeg ∨ x.tag < s.day.base)
          ∧ t.uplink.sending = s.uplink.sending.map fun x =>
              if x.block.cls = .eodSeg ∧ s.day.base ≤ x.block.tag then { x with broken := true } else x)

/-! ### Management: the tables -/

/-- R39, R95, R97, R104, R125, R136, R141, R195: loads of a transaction kind, a format and a book layout, the empty marker among them, and of
an attribute bank, that pass their tests. The entry is replaced, or made empty, and every other entry stays. A window that shows the format is
composed again from the fields the context holds, or with the format empty is blank and its context cleared, marked dirty where it changed; no
alert and no READY follows, and no other screen changes. The screens of the stations that name the bank are dirty throughout. A port holding
the book type's layout holds none, and each account of that book type that holds more lines than the threshold now in force is summarised, and
counted; no other account changes. The load is answered DONE and the unsaved mark is set. -/
def Obligations.LoadsOfFormatsAndLayouts : Prop :=
  (∀ (s : State) (tag i : Nat) (x : Option KindEntry), 1 ≤ i → i ≤ 64 → (∀ e, x = some e → kindEntryOk e = true) →
    (∀ e ∈ s.router.table, e.kind ≠ i) → CommandAtHead s tag ([1, 0, 3, BitVec.ofNat 8 i] ++ encEntry (x.map encKindEntry)) →
    ∃ t, exec .loadTransactionKinds s = .next t ∧ AnsweredDone s t tag .loadTable [] ∧ SameManagement s t ∧ t.mgmt.unsaved = true
      ∧ t = { s with uplink := t.uplink, mgmt := t.mgmt, tables := { s.tables with kinds := put s.tables.kinds (i - 1) x } })
  ∧ (∀ (s : State) (tag i : Nat) (x : Option Format), 1 ≤ i → i ≤ 96 →
    (∀ f, x = some f →
      formatOk f = true ∧ f.entries.all FieldEntry.sourced = true ∧ f = Format.make f.origin f.entries) →
    CommandAtHead s tag ([1, 0, 8, BitVec.ofNat 8 i] ++ encEntry (x.map encFormat)) →
    ∃ t, exec .loadFormats s = .next t ∧ AnsweredDone s t tag .loadTable [] ∧ SameManagement s t ∧ t.mgmt.unsaved = true
      ∧ t = { s with uplink := t.uplink, mgmt := t.mgmt, composer := { s.composer with screens := t.composer.screens }
                     tables := { s.tables with formats := put s.tables.formats (i - 1) x } }
      ∧ ∀ a, isStation a = true →
          ((s.screen a).format ≠ some i → t.screen a = s.screen a)
          ∧ ((s.screen a).format = some i →
              t.screen a = { s.screen a with
                format := x.map fun _ => i, origin := (x.map Format.origin).getD 2
                fields := if x = none then [] else (s.screen a).fields, rows := (t.screen a).rows, dirty := (t.screen a).dirty }
              ∧ (∀ r, r = 1 ∨ r = 24 → (t.screen a).row r = (s.screen a).row r ∧ (t.screen a).dirtySpan r = (s.screen a).dirtySpan r)
              ∧ ∀ r, 2 ≤ r → r ≤ 23 →
                  (t.screen a).row r = (match x with | some f => windowRow t.tables f (s.screen a).fields r | none => blankRow)
                  ∧ (t.screen a).dirtySpan r = ((s.screen a).writeRow r ((t.screen a).row r)).dirtySpan r))
  ∧ (∀ (s : State) (tag i : Nat) (bank : Vector AttrRecord 16), i ≤ 3 →
    CommandAtHead s tag ([1, 0, 9, BitVec.ofNat 8 i, 0] ++ encBank bank) →
    ∃ t, exec .loadAttributeBanks s = .next t ∧ AnsweredDone s t tag .loadTable [] ∧ SameManagement s t ∧ t.mgmt.unsaved = true
      ∧ t = { s with uplink := t.uplink, mgmt := t.mgmt, composer := t.composer
                     tables := { s.tables with banks := put s.tables.banks i bank } }
      ∧ ∀ a, isStation a = true →
          ((s.tables.station a).bank ≠ i → t.screen a = s.screen a)
          ∧ ((s.tables.station a).bank = i →
              t.screen a = { s.screen a with dirty := Vector.replicate 24 (some ⟨1, 80⟩) }))
  ∧ (∀ (s : State) (tag i : Nat) (x : Option BookLayout), i ≤ 7 → (∀ b, x = some b → layoutOk b = true) →
    s.day.state.frozen = false → s.jobHolds (fun r => r.bookType = i) = false →
    CommandAtHead s tag ([1, 0, 10, BitVec.ofNat 8 i] ++ encEntry (x.map encLayout)) →
    let limit := (x.map BookLayout.limit).getD 20
    let larger := s.passbook.held.filter fun y => y.2.bookType = i && limit < y.2.lines.length
    ∃ t, exec .loadBookLayouts s = .next t ∧ AnsweredDone s t tag .loadTable [] ∧ SameManagement s t ∧ t.mgmt.unsaved = true
      ∧ t = { s with uplink := t.uplink, mgmt := t.mgmt, ports := t.ports
                     passbook := { s.passbook with slots := t.passbook.slots, counters := t.passbook.counters }
                     tables := { s.tables with layouts := put s.tables.layouts i x } }
      ∧ t.passbook.counters = { s.passbook.counters with
          summaries := if larger = [] then s.passbook.counters.summaries else min (s.passbook.counters.summaries + larger.length) 65535 }
      ∧ (∀ p, isPort p = true → t.port p = { s.port p with
          loaded := if (s.port p).loaded = some i then none else (s.port p).loaded })
      ∧ (∀ j, j < 512 → (∀ y, look s.passbook.slots j = some y → y.bookType = i → y.lines.length ≤ limit) →
          look t.passbook.slots j = look s.passbook.slots j)
      ∧ ∀ j y, look s.passbook.slots j = some y → y.bookType = i → limit < y.lines.length →
          (∀ m ∈ y.lines.drop 1, m.inPrint = false) →
          ∃ after, LinesMerged (y.lines.length - limit + (limit + 1) / 2) y.lines after
            ∧ look t.passbook.slots j = some { y with lines := after })

/-- R4, R14, R127, R196: loads of a station table entry and of the branch parameters that pass their tests. A change of the bank marks the
station's screen dirty throughout. The branch parameters are replaced whole, the loop runs at the new rate with both window counts 0;
a port whose enable field becomes set leaves DISABLED and FAILED for NOT READY, one whose field becomes clear is DISABLED, and a
port whose field stays is untouched. -/
def Obligations.LoadsOfStationsAndParameters : Prop :=
  (∀ (s : State) (tag i : Nat) (e : StationEntry), isStation i = true → stationEntryOk e = true →
    s.router.hasEntry i = false → (s.station i).state ≠ .test →
    CommandAtHead s tag ([1, 0, 2, BitVec.ofNat 8 i, 0] ++ encStationEntry e) →
    ∃ t, exec .loadStationTable s = .next t ∧ AnsweredDone s t tag .loadTable [] ∧ SameManagement s t ∧ t.mgmt.unsaved = true
      ∧ t = { s with uplink := t.uplink, mgmt := t.mgmt, composer := t.composer
                     tables := { s.tables with stations := put s.tables.stations (i - 1) e } }
      ∧ OnlyScreen i s.composer t.composer
      ∧ ((s.tables.station i).bank ≠ e.bank → ∀ r, 1 ≤ r → r ≤ 24 → (t.screen i).dirtySpan r = some ⟨1, 80⟩)
      ∧ (s.tables.station i = e → t.composer = s.composer))
  ∧ ∀ (s : State) (tag : Nat) (p : BranchParams), paramsOk p = true → p.branch < 65536 →
    CommandAtHead s tag ([1, 0, 1, 1, 0] ++ encParams p) →
    ∃ t, exec .loadBranchParameters s = .next t ∧ AnsweredDone s t tag .loadTable [] ∧ SameManagement s t ∧ t.mgmt.unsaved = true
      ∧ t = { s with uplink := t.uplink, mgmt := t.mgmt, ports := t.ports, passbook := t.passbook, composer := t.composer
                     tables := { s.tables with params := p }
                     loop := { s.loop with rate := p.loopRate, goodCount := 0, failCount := 0 } }
      ∧ StatusLinesOnly s.composer t.composer
      ∧ (p.enables = s.params.enables → t.ports = s.ports ∧ t.passbook = s.passbook ∧ t.composer = s.composer)
      ∧ ∀ n, isPort n = true →
          (bitSet p.enables (n - 1) = bitSet s.params.enables (n - 1) → t.port n = s.port n)
          ∧ (bitSet p.enables (n - 1) = true → bitSet s.params.enables (n - 1) = false →
              ((s.port n).state = .disabled ∨ (s.port n).state = .failed) → (t.port n).state = .notReady)
          ∧ (bitSet p.enables (n - 1) = false → bitSet s.params.enables (n - 1) = true →
              (t.port n).state = .disabled)

/-- R66 to R68, R79 to R81, R195: loads of a currency, a denomination list, a rate and drawer limits that pass their tests. A currency entry,
an empty one too where it is not entry 0, takes an empty denomination list, and the drawers' counts of it are gone; a list, for which the
empty marker stands for one of no denomination, gives every drawer one count of 0 for each denomination; a rate recomputes the position of
every drawer and evaluates its limit state; limits evaluate the drawer's. -/
def Obligations.LoadsOfMoneyTables : Prop :=
  (∀ (s : State) (tag i : Nat) (x : Option Currency), i ≤ 11 →
    (∀ c, x = some c → currencyOk c = true ∧ s.tables.currencyFits i c = true) →
    (x = none → i ≠ 0 ∧ (s.tables.currency 0).isSome = true) →
    s.day.state.frozen = false → s.currencyLoadInUse i = false →
    CommandAtHead s tag ([1, 0, 4, BitVec.ofNat 8 i] ++ encEntry (x.map encCurrency)) →
    ∃ t, exec .loadCurrencies s = .next t ∧ AnsweredDone s t tag .loadTable [] ∧ SameManagement s t ∧ t.mgmt.unsaved = true
      ∧ t = { s with uplink := t.uplink, mgmt := t.mgmt, drawers := t.drawers
                     tables := { s.tables with
                       currencies := put s.tables.currencies i x, denoms := put s.tables.denoms i [] } }
      ∧ ∀ d, isDrawer d = true → t.drawer d = { s.drawer d with
          currencies := put (s.drawer d).currencies i { look (s.drawer d).currencies i with pieces := [] } })
  ∧ (∀ (s : State) (tag i : Nat) (x : Option (List Denomination)), i ≤ 11 → (∀ l, x = some l → denomsOk l = true) →
    (s.tables.currency i).isSome = true → s.day.state.frozen = false → s.currencyInUse i = false →
    CommandAtHead s tag ([1, 0, 5, BitVec.ofNat 8 i] ++ encEntry (x.map encDenoms)) →
    let l := x.getD []
    ∃ t, exec .loadDenominationLists s = .next t ∧ AnsweredDone s t tag .loadTable [] ∧ SameManagement s t
      ∧ t.mgmt.unsaved = true
      ∧ t = { s with uplink := t.uplink, mgmt := t.mgmt, drawers := t.drawers
                     tables := { s.tables with denoms := put s.tables.denoms i l } }
      ∧ ∀ d, isDrawer d = true → t.drawer d = { s.drawer d with
          currencies := put (s.drawer d).currencies i
            { look (s.drawer d).currencies i with pieces := List.replicate l.length ⟨0, 0⟩ } })
  ∧ (∀ (s : State) (tag i r : Nat), i ≤ 11 → rateOk i r = true → s.day.state.frozen = false →
    CommandAtHead s tag ([1, 0, 6, BitVec.ofNat 8 i, 0] ++ be 5 r) →
    ∃ t, exec .loadRates s = .next t ∧ AnsweredDone s t tag .loadTable [] ∧ SameManagement s t ∧ t.mgmt.unsaved = true
      ∧ t = { s with uplink := t.uplink, mgmt := t.mgmt, drawers := t.drawers, composer := t.composer
                     tables := { s.tables with rates := put s.tables.rates i r } }
      ∧ ∀ d, isDrawer d = true → t.drawer d = { s.drawer d with
          position := (t.tables.position (s.drawer d)).1
          limit := evalLimit (s.tables.limit d) (s.drawer d).limit (t.tables.position (s.drawer d)).1
          overflow := (s.drawer d).overflow || (t.tables.position (s.drawer d)).2 })
  ∧ ∀ (s : State) (tag i : Nat) (l : Limits), isDrawer i = true → limitsOk l = true → s.day.state.frozen = false →
    CommandAtHead s tag ([1, 0, 7, BitVec.ofNat 8 i, 0] ++ encLimits l) →
    ∃ t, exec .loadDrawerLimits s = .next t ∧ AnsweredDone s t tag .loadTable [] ∧ SameManagement s t ∧ t.mgmt.unsaved = true
      ∧ t = { s with uplink := t.uplink, mgmt := t.mgmt, composer := t.composer
                     drawers := put s.drawers i
                       { s.drawer i with limit := evalLimit l (s.drawer i).limit (s.drawer i).position }
                     tables := { s.tables with limits := put s.tables.limits i l } }

/-- R195, R198: READ TABLE returns the entry as it stands and READ STATUS the area and item. That a read finds its own command counted and in
flight is the model's choice (log entry 24), and so are the layouts of the returns that spec 11 does not give (log entry 17), the whole
return of a format that makes the body of the response longer than 1,024 bytes (log entry 43), and the value of 5 bytes for a leg of a
correction above 2^40 - 1 (log entry 45). Neither changes anything but the uplink's queues and the Management Unit's own counters. -/
def Obligations.ReadsReturnWhatStands : Prop :=
  (∀ (s : State) (tag n i : Nat), 1 ≤ n → n ≤ 10 → i ∈ tableEntries n →
    CommandAtHead s tag [2, 0, BitVec.ofNat 8 n, BitVec.ofNat 8 i] →
    ∃ t, exec .readTable s = .next t ∧ AnsweredDone s t tag .readTable (s.tables.readReturn n i) ∧ SameManagement s t
      ∧ t = { s with uplink := t.uplink, mgmt := t.mgmt } ∧ t.mgmt.unsaved = s.mgmt.unsaved)
  ∧ ∀ (s : State) (tag : Nat) (a : Area) (i j : Byte), a.itemInRange i.toNat j.toNat = true →
    a.itemStray i.toNat j.toNat = false →
    CommandAtHead s tag [3, 0, BitVec.ofNat 8 (codeIn areaNames a), i, j] →
    ∃ t, exec .readStatus s = .next t ∧ SameManagement s t
      ∧ AnsweredDone s t tag .readStatus (State.report { s with
          uplink := s.uplink.taken
          mgmt := { s.mgmt with inFlight := some ⟨3, tag⟩, taken := bump s.mgmt.taken } } a i.toNat j.toNat)
      ∧ t = { s with uplink := t.uplink, mgmt := t.mgmt } ∧ t.mgmt.unsaved = s.mgmt.unsaved

/-! ### Management: the flags -/

/-- R12, R15, R18, R197: SET FLAGS with HOLD targets makes each named station that is not HELD so: its teller ID is cleared, its misses are
0, its frames are handed back to its screen, and its status line is formed again; a visit to one ends, and a loop test of one is over.
CLEAR FLAGS makes each named station that is HELD ABSENT. LOOP TEST START of a station without an outstanding request, no test running,
puts it in TEST in the same way, with a fresh test record. LOOP TEST STOP of the station under test returns the record, clears it, and
makes the station ABSENT. No other station changes, nor any other screen but in its status line. -/
def Obligations.HoldAndTestMoveStations : Prop :=
  (∀ (s : State) (tag mask : Nat), mask ≠ 0 → mask < 2 ^ 24 → CommandAtHead s tag ([4, 0] ++ be 5 mask) →
    let taken (a : Nat) : Prop := isStation a = true ∧ mask.testBit (a - 1) = true ∧ (s.station a).state ≠ .held
    ∃ t, exec .setHold s = .next t ∧ AnsweredDone s t tag .setFlags [] ∧ SameManagement s t ∧ t.mgmt.unsaved = s.mgmt.unsaved
      ∧ t = { s with uplink := t.uplink, mgmt := t.mgmt, loop := t.loop
                     composer := { s.composer with screens := t.composer.screens } }
      ∧ (∀ a, isStation a = true →
          (taken a → t.station a = { state := .held, teller := none, misses := 0, frames := [] } ∧ FramesHandedBack s t a)
          ∧ (¬ taken a → t.station a = s.station a ∧ t.screen a = s.screen a))
      ∧ VisitsEnd s.loop t.loop taken
      ∧ ((∃ a, isStation a = true ∧ mask.testBit (a - 1) = true ∧ (s.station a).state = .test) → t.loop.test = none)
      ∧ ((∀ a, isStation a = true → mask.testBit (a - 1) = true → (s.station a).state ≠ .test) → t.loop.test = s.loop.test))
  ∧ (∀ (s : State) (tag mask : Nat), mask ≠ 0 → mask < 2 ^ 24 → CommandAtHead s tag ([5, 0] ++ be 5 mask) →
    ∃ t, exec .clearHold s = .next t ∧ AnsweredDone s t tag .clearFlags [] ∧ SameManagement s t
      ∧ t.mgmt.unsaved = s.mgmt.unsaved
      ∧ t = { s with uplink := t.uplink, mgmt := t.mgmt, composer := t.composer
                     loop := { s.loop with stations := t.loop.stations } }
      ∧ StatusLinesOnly s.composer t.composer
      ∧ ∀ a, isStation a = true → t.station a =
          if mask.testBit (a - 1) = true ∧ (s.station a).state = .held then { s.station a with state := .absent }
          else s.station a)
  ∧ (∀ (s : State) (tag a : Nat) (kind injection : Byte) (bytes : List Byte), isStation a = true → bytes.length = 8 →
    (kind = 1 ∨ kind = 2 ∧ bytes = List.replicate 8 0) → (injection = 0 ∨ injection = 1) →
    s.loop.test = none → s.router.hasEntry a = false →
    CommandAtHead s tag ([12, 0, BitVec.ofNat 8 a, kind] ++ bytes ++ [injection]) →
    ∃ t, exec .loopTestStart s = .next t ∧ AnsweredDone s t tag .loopTestStart [] ∧ SameManagement s t
      ∧ t.mgmt.unsaved = s.mgmt.unsaved
      ∧ t = { s with uplink := t.uplink, mgmt := t.mgmt, loop := t.loop, composer := t.composer }
      ∧ OnlyScreen a s.composer t.composer ∧ FramesHandedBack s t a
      ∧ t.loop.test = some { station := a, pattern := if kind = 1 then .fixed bytes else .pseudo (BitVec.allOnes 15)
                             injection := decide (injection = 1), sent := 0, errors := 0, capture := none }
      ∧ t.station a = { state := .test, teller := none, misses := 0, frames := [] }
      ∧ VisitsEnd s.loop t.loop (· = a)
      ∧ ∀ b, isStation b = true → b ≠ a → t.station b = s.station b)
  ∧ ∀ (s : State) (tag a : Nat) (r : TestRec), isStation a = true → s.loop.test = some r → r.station = a →
    CommandAtHead s tag [13, 0, BitVec.ofNat 8 a] →
    ∃ t, exec .loopTestStop s = .next t ∧ AnsweredDone s t tag .loopTestStop (testReturn r) ∧ SameManagement s t
      ∧ t.mgmt.unsaved = s.mgmt.unsaved
      ∧ t = { s with uplink := t.uplink, mgmt := t.mgmt, loop := t.loop, composer := t.composer }
      ∧ StatusLinesOnly s.composer t.composer ∧ (t.screen a).row 1 = t.statusRow a
      ∧ t.loop.test = none ∧ t.station a = { s.station a with state := .absent, misses := 0 }
      ∧ VisitsEnd s.loop t.loop (· = a)
      ∧ ∀ b, isStation b = true → b ≠ a → t.station b = s.station b

/-- R127, R131, R148, R150, R151, R197: SET FLAGS and CLEAR FLAGS with the ENABLE target of port p alone. The enable field is set or cleared,
and the unsaved mark set if that changes it. A DISABLED or FAILED port set is NOT READY; a port cleared is DISABLED, no order or claim is left
at it, and its reset pulse runs. That the 10 ms of that pulse begin afresh where one runs already is the model's choice (log entry 50). The
job of a claimed port, and one in TURN WAIT at a port without a claim, is cleared; any other record stays. The line in print of the job of a
claimed port loses its mark and stays in its place, or in a frozen day keeps it and is the port's settlement, not printed; where there is no
such line the store and the settlements stay. Other ports, their jobs and the counters stay as they are. -/
def Obligations.EnableFlagsMovePorts : Prop :=
  ∀ (s : State) (tag p : Nat), isPort p = true →
    (CommandAtHead s tag ([4, 0] ++ be 5 (2 ^ (p + 23))) →
      ∃ t, exec .setEnable s = .next t ∧ AnsweredDone s t tag .setFlags [] ∧ SameManagement s t
        ∧ t.mgmt.unsaved = (s.mgmt.unsaved || !bitSet s.params.enables (p - 1))
        ∧ t = { s with uplink := t.uplink, mgmt := t.mgmt, ports := t.ports, composer := t.composer
                       tables := { s.tables with
                         params := { s.params with enables := s.params.enables ||| (1#8 <<< (p - 1)) } } }
        ∧ StatusLinesOnly s.composer t.composer
        ∧ ((s.port p).state = .disabled ∨ (s.port p).state = .failed →
            (t.port p).state = .notReady ∧ (t.port p).readyTimer = some 10000 ∧ (t.port p).poll = true)
        ∧ ((s.port p).state ≠ .disabled → (s.port p).state ≠ .failed → t.ports = s.ports)
        ∧ ∀ q, isPort q = true → q ≠ p → t.port q = s.port q)
    ∧ (CommandAtHead s tag ([5, 0] ++ be 5 (2 ^ (p + 23))) →
      ∃ t, exec .clearEnable s = .next t ∧ AnsweredDone s t tag .clearFlags [] ∧ SameManagement s t
        ∧ t.mgmt.unsaved = (s.mgmt.unsaved || bitSet s.params.enables (p - 1))
        ∧ t = { s with uplink := t.uplink, mgmt := t.mgmt, ports := t.ports, passbook := t.passbook, composer := t.composer
                       tables := { s.tables with
                         params := { s.params with enables := s.params.enables &&& ~~~(1#8 <<< (p - 1)) } } }
        ∧ StatusLinesOnly s.composer t.composer
        ∧ (t.port p).state = .disabled
        ∧ ((s.port p).state ≠ .disabled → (t.port p).order = none ∧ (t.port p).claimed = false ∧ (t.port p).dialogue = .none
            ∧ (t.port p).pulseTimer = some 10 ∧ (t.port p).loaded = none ∧ (t.port p).readyTimer = none
            ∧ (t.port p).pollTimer = none
            ∧ (((s.port p).claimed = true ∨ ∃ j, s.job p = some j ∧ j.state = .turnWait) → t.job p = none)
            ∧ ((s.port p).claimed = false → (∀ j, s.job p = some j → j.state ≠ .turnWait) → t.job p = s.job p)
            ∧ t.passbook = { s.passbook with
                slots := t.passbook.slots, jobs := t.passbook.jobs, settlements := t.passbook.settlements }
            ∧ ((s.port p).claimed = false ∨ s.lineInPrint p = none →
                t.passbook.slots = s.passbook.slots ∧ t.passbook.settlements = s.passbook.settlements)
            ∧ ∀ x, (s.port p).claimed = true → s.lineInPrint p = some x →
                (s.day.state.frozen = true → t.passbook.slots = s.passbook.slots
                  ∧ ∀ q, isPort q = true → look t.passbook.settlements (q - 1)
                      = if q = p then some ⟨x.1, x.2, false⟩ else look s.passbook.settlements (q - 1))
                ∧ (s.day.state.frozen = false → t.passbook.settlements = s.passbook.settlements
                  ∧ (∀ i, look s.passbook.slots i = none → look t.passbook.slots i = none)
                  ∧ (s.passbook.Sound → ∀ i y, look s.passbook.slots i = some y → look t.passbook.slots i = some { y with
                      lines := y.lines.map fun l => if x = (y.account, l.reference) then { l with inPrint := false } else l })))
        ∧ ((s.port p).state = .disabled → t.ports = s.ports ∧ t.passbook = s.passbook)
        ∧ ∀ q, isPort q = true → q ≠ p → t.port q = s.port q ∧ t.job q = s.job q)

/-- R14, R40, R197: the flags of the branch parameters. STAND-IN ENABLE and LOOP FALLBACK DISABLE are set and cleared in the branch parameters, and
the unsaved mark is set only if that changes them; RATE RESTORE set puts the loop back at the rate of the branch parameters with both
window counts 0, and cleared does nothing. -/
def Obligations.ParameterFlags : Prop :=
  ∀ (s : State) (tag : Nat),
    let changed (p : BranchParams) (t : State) : Prop :=
      t = { s with uplink := t.uplink, mgmt := t.mgmt, tables := { s.tables with params := p } }
      ∧ SameManagement s t ∧ t.mgmt.unsaved = (s.mgmt.unsaved || decide (p ≠ s.params))
    (CommandAtHead s tag ([4, 0] ++ be 5 (2 ^ 32)) → ∃ t, exec .setStandInEnable s = .next t
      ∧ AnsweredDone s t tag .setFlags [] ∧ changed { s.params with standInEnable := true } t)
    ∧ (CommandAtHead s tag ([5, 0] ++ be 5 (2 ^ 32)) → ∃ t, exec .clearStandInEnable s = .next t
      ∧ AnsweredDone s t tag .clearFlags [] ∧ changed { s.params with standInEnable := false } t)
    ∧ (CommandAtHead s tag ([4, 0] ++ be 5 (2 ^ 33)) → ∃ t, exec .setLoopFallbackDisable s = .next t
      ∧ AnsweredDone s t tag .setFlags [] ∧ changed { s.params with fallbackDisable := true } t)
    ∧ (CommandAtHead s tag ([5, 0] ++ be 5 (2 ^ 33)) → ∃ t, exec .clearLoopFallbackDisable s = .next t
      ∧ AnsweredDone s t tag .clearFlags [] ∧ changed { s.params with fallbackDisable := false } t)
    ∧ (CommandAtHead s tag ([4, 0] ++ be 5 (2 ^ 34)) → ∃ t, exec .rateRestore s = .next t
      ∧ AnsweredDone s t tag .setFlags [] ∧ SameManagement s t ∧ t.mgmt.unsaved = s.mgmt.unsaved
      ∧ t = { s with uplink := t.uplink, mgmt := t.mgmt
                     loop := { s.loop with rate := s.params.loopRate, goodCount := 0, failCount := 0 } })
    ∧ (CommandAtHead s tag ([5, 0] ++ be 5 (2 ^ 34)) → ∃ t, exec .rateRestore s = .next t
      ∧ AnsweredDone s t tag .clearFlags [] ∧ SameManagement s t ∧ t.mgmt.unsaved = s.mgmt.unsaved
      ∧ t = { s with uplink := t.uplink, mgmt := t.mgmt })

/-! ### Management: the day, the clock, tests and records -/

/-- R86, R90, R151, R161, R164, R169 to R172, R188: OPEN DAY in NO DAY or SENT, or forced in REJECTED or FAILED, opens every drawer with its
day totals 0, leaves the DAY OPEN entry alone in the journal, and opens the day with the date; each port's settlement is applied and
cleared, a line printed leaving the store, its account with it if it was the last, and one not printed losing its in-print mark. CLOSE DAY
in OPEN leaves OPEN, and close-pending, the OPEN drawers that hold reserved counts; each other OPEN drawer is closed, in drawer order, with
its DRAWER CLOSED entry while there is room. RESEND EOD in SENT, REJECTED or FAILED makes the day SENDING with the sender cleared, the link
being UP; a command is handed over in UP alone (R25), so the last clause states what one judged with the link not UP comes to, the day
CLOSED. -/
def Obligations.DayCommands : Prop :=
  (∀ (s : State) (tag : Nat) (date : List Byte) (force : Byte), (readDate date).isSome = true → date.length = 8 →
    ((s.day.state = .noDay ∨ s.day.state = .sent) ∧ (force = 0 ∨ force = 1)
      ∨ (s.day.state = .rejected ∨ s.day.state = .failed) ∧ force = 1) →
    CommandAtHead s tag ([6, 0] ++ date ++ [force]) →
    ∃ t, exec .openDay s = .next t ∧ AnsweredDone s t tag .openDay [] ∧ SameManagement s t ∧ t.mgmt.unsaved = s.mgmt.unsaved
      ∧ t = { s with uplink := t.uplink, mgmt := t.mgmt, drawers := t.drawers, journal := t.journal, router := t.router
                     passbook := t.passbook, day := t.day, composer := t.composer }
      ∧ StatusLinesOnly s.composer t.composer
      ∧ t.day = { s.day with
          state := .opened, date := some date, closePending := [], freeze := none, base := 1, pointer := 1, highest := 0
          retries := 0, timer := none }
      ∧ (∃ e, t.journal = { entries := [e], counter := 1, unforwarded := 0, omitted := 0, warning := false }
          ∧ e.sequence = 1 ∧ e.time = s.mgmt.clock ∧ e.kind = .dayOpen ∧ e.detail = some (.dayOpen date))
      ∧ t.router.table = s.router.table ∧ t.router.setAside = [] ∧ t.router.sequences = s.router.sequences
      ∧ (∀ a, a < 24 → look t.router.unanswered a = none)
      ∧ (∀ p, isPort p = true → look t.passbook.settlements (p - 1) = none) ∧ t.passbook.jobs = s.passbook.jobs
      ∧ t.passbook.counters = s.passbook.counters
      ∧ ((∀ p, isPort p = true → look s.passbook.settlements (p - 1) = none) → t.passbook = s.passbook)
      ∧ (s.passbook.Sound → ∀ i x, look s.passbook.slots i = some x →
          let settled (printed : Bool) (l : PLine) : Bool :=
            (List.range' 1 8).any fun p => look s.passbook.settlements (p - 1) = some ⟨x.account, l.reference, printed⟩
          let kept := (x.lines.filter fun l => !settled true l).map fun l =>
            if settled false l = true then { l with inPrint := false } else l
          look t.passbook.slots i = (if kept = [] then none else some { x with lines := kept }))
      ∧ (∀ i, look s.passbook.slots i = none → look t.passbook.slots i = none)
      ∧ ∀ d, isDrawer d = true → (t.drawer d).isOpen = true ∧ (t.drawer d).baseIn = 0 ∧ (t.drawer d).baseOut = 0
          ∧ (t.drawer d).standIn = 0 ∧ (t.drawer d).overflow = false ∧ (t.drawer d).unbalanced = false
          ∧ (t.drawer d).position = (s.drawer d).position ∧ (t.drawer d).limit = (s.drawer d).limit
          ∧ ∀ c, c < 12 → look (t.drawer d).currencies c = { look (s.drawer d).currencies c with
              dayIn := 0, dayOut := 0, rounding := 0, balance := none })
  ∧ (∀ (s : State) (tag : Nat), s.day.state = .opened → CommandAtHead s tag [7, 0] →
    ∃ t, exec .closeDay s = .next t ∧ AnsweredDone s t tag .closeDay [] ∧ SameManagement s t ∧ t.mgmt.unsaved = s.mgmt.unsaved
      ∧ t = { s with uplink := t.uplink, mgmt := t.mgmt, drawers := t.drawers, journal := t.journal, day := t.day
                     composer := t.composer }
      ∧ StatusLinesOnly s.composer t.composer
      ∧ t.day = { s.day with state := .closing, closePending := t.day.closePending }
      ∧ (∀ d, d ∈ t.day.closePending ↔
          isDrawer d = true ∧ (s.drawer d).isOpen = true ∧ (s.drawer d).hasReserved = true)
      ∧ ForceClosed s t ((List.range 17).filter fun d => (s.drawer d).isOpen && !(s.drawer d).hasReserved))
  ∧ (∀ (s : State) (tag : Nat), (s.day.state = .sent ∨ s.day.state = .rejected ∨ s.day.state = .failed) →
    CommandAtHead s tag [8, 0] →
    ∃ t, exec .resendEod s = .next t ∧ AnsweredDone s t tag .resendEod [] ∧ SameManagement s t ∧ t.mgmt.unsaved = s.mgmt.unsaved
      ∧ t = { s with uplink := t.uplink, mgmt := t.mgmt, day := t.day, composer := t.composer }
      ∧ StatusLinesOnly s.composer t.composer
      ∧ t.day = { s.day with
          state := .sending, base := 1, pointer := 1, highest := 0, retries := 0, timer := none
          counters := { s.day.counters with resends := min (s.day.counters.resends + 1) 65535 } })
  ∧ ∀ (s : State) (tag : Nat), (s.day.state = .sent ∨ s.day.state = .rejected ∨ s.day.state = .failed) → s.mgmt.inFlight = none →
    s.uplink.link ≠ .up →
    let t := s.judgeCommand tag [8, 0]
    t = { s with uplink := t.uplink, mgmt := { s.mgmt with taken := bump s.mgmt.taken }, day := t.day, composer := t.composer }
      ∧ StatusLinesOnly s.composer t.composer
      ∧ t.uplink = { s.uplink with control := s.uplink.control ++ [⟨.mgmtResp, tag, [8, 0, 0] ++ s.mgmt.stateByte⟩] }
      ∧ t.day = { s.day with
          state := .closed, base := 1, pointer := 1, highest := 0, retries := 0, timer := none
          counters := { s.day.counters with resends := min (s.day.counters.resends + 1) 65535 } }

/-- R199: SET TIME gives the clock a time of day and sets its mark; a second advances a set clock, midnight following 86,399, and leaves an
unset one at rest. R192, R193, R205: the refusals. Each is answered REFUSED with its reason, counted, and changes nothing else, and the first
test that holds decides: BAD LENGTH of a body shorter than the header, answered with code 00h; BUSY with a command in flight, RESTART apart;
UNKNOWN COMMAND; BAD LENGTH of fields that do not suit; RESERVED NONZERO of the reserved byte; and then the command's own tests in the order
of its rule, here BAD TABLE, BAD INDEX, BAD VALUE, WRONG DAY STATE, IN USE and JOURNAL FULL of the commands that have them. That READ STATUS
judges the range of its item, BAD INDEX, before an item byte that the area does not use, RESERVED NONZERO, is the model's reading (log entry
18). To which row of the table of operations a refused command belongs is the model's choice (log entry 6), and so is that no length is wrong
for a LOAD TABLE of a table outside 1 to 10 (log entry 55). -/
def Obligations.ClockAndRefusals : Prop :=
  (∀ (s : State) (tag n : Nat), n ≤ 86399 → CommandAtHead s tag ([9, 0] ++ be 3 n) →
    ∃ t, exec .setTime s = .next t ∧ AnsweredDone s t tag .setTime []
      ∧ t = { s with uplink := t.uplink, mgmt := t.mgmt }
      ∧ t.mgmt = { s.mgmt with clock := n, clockSet := true, taken := bump s.mgmt.taken, inFlight := none })
  ∧ (∀ s : State, s.mgmt.clockSet = true → s.mgmt.clock ≤ 86399 →
      exec .clockSecond s = .next { s with mgmt := { s.mgmt with
        clock := if s.mgmt.clock = 86399 then 0 else s.mgmt.clock + 1 } })
  ∧ (∀ s : State, s.mgmt.clockSet = false → exec .clockSecond s = .next s)
  ∧ (∀ (s : State) (tag : Nat) (code reserved : Byte) (fields : List Byte), (code = 0 ∨ 16 < code.toNat) →
    CommandAtHead s tag (code :: reserved :: fields) →
    exec .unknownCommand s = .next { s with
      uplink := { s.uplink.afterGood with
        control := s.uplink.control ++ [⟨.mgmtResp, tag, [code, 1, 1] ++ s.mgmt.stateByte⟩] }
      mgmt := { s.mgmt with refusals := put s.mgmt.refusals 0 (min (look s.mgmt.refusals 0 + 1) 65535) } })
  ∧ (∀ (s : State) (tag : Nat) (body : List Byte), body.length < 2 → CommandHanded s tag body →
    exec .unknownCommand s = .next (s.refused tag 0 .badLength))
  ∧ (∀ (s : State) (tag : Nat) (c : Instr) (code reserved : Byte) (fields : List Byte), CommandRow c code.toNat fields →
    CommandHanded s tag (code :: reserved :: fields) →
    (s.mgmt.inFlight ≠ none → code ≠ 11 → exec c s = .next (s.refused tag code .busy))
    ∧ ((s.mgmt.inFlight = none ∨ code = 11) →
        (∀ n, fieldsLength code.toNat = some n → fields.length ≠ n → exec c s = .next (s.refused tag code .badLength))
        ∧ (∀ n, fieldsLength code.toNat = some n → fields.length = n → reserved ≠ 0 →
            exec c s = .next (s.refused tag code .reservedNonzero))))
  ∧ (∀ (s : State) (tag : Nat) (c : Instr) (reserved table i mark : Byte) (rest : List Byte),
    CommandRow c 1 (table :: i :: mark :: rest) → CommandAtHead s tag (1 :: reserved :: table :: i :: mark :: rest) →
    let named : Prop := 1 ≤ table.toNat ∧ table.toNat ≤ 10
    (named → mark = 1 → rest ≠ [] → exec c s = .next (s.refused tag 1 .badLength))
    ∧ (reserved ≠ 0 → (named → mark = 1 ∧ rest = []) → exec c s = .next (s.refused tag 1 .reservedNonzero))
    ∧ (reserved = 0 →
        (¬ named → exec c s = .next (s.refused tag 1 .badTable))
        ∧ (named → mark = 1 → rest = [] →
            (i.toNat ∉ tableEntries table.toNat → exec c s = .next (s.refused tag 1 .badIndex))
            ∧ (i.toNat ∈ tableEntries table.toNat → (table = 1 ∨ table = 2 ∨ table = 6 ∨ table = 7 ∨ table = 9) →
                exec c s = .next (s.refused tag 1 .badValue))
            ∧ (table = 3 → i.toNat ∈ tableEntries 3 → (∃ e ∈ s.router.table, e.kind = i.toNat) →
                exec c s = .next (s.refused tag 1 .inUse))
            ∧ (table = 10 → i.toNat ∈ tableEntries 10 →
                (s.day.state.frozen = true → exec c s = .next (s.refused tag 1 .wrongDayState))
                ∧ (s.day.state.frozen = false → s.jobHolds (fun r => r.bookType = i.toNat) = true →
                    exec c s = .next (s.refused tag 1 .inUse))))))
  ∧ (∀ (s : State) (tag : Nat) (table i : Byte), CommandAtHead s tag [2, 0, table, i] →
    ((table = 0 ∨ 10 < table.toNat) → exec .readTable s = .next (s.refused tag 2 .badTable))
    ∧ (1 ≤ table.toNat → table.toNat ≤ 10 → i.toNat ∉ tableEntries table.toNat →
        exec .readTable s = .next (s.refused tag 2 .badIndex)))
  ∧ (∀ (s : State) (tag : Nat) (area i j : Byte), CommandAtHead s tag [3, 0, area, i, j] →
    (nameIn areaNames area.toNat = none → exec .readStatus s = .next (s.refused tag 3 .badValue))
    ∧ (∀ a, nameIn areaNames area.toNat = some a →
        (a.itemInRange i.toNat j.toNat = false → exec .readStatus s = .next (s.refused tag 3 .badIndex))
        ∧ (a.itemInRange i.toNat j.toNat = true → a.itemStray i.toNat j.toNat = true →
            exec .readStatus s = .next (s.refused tag 3 .reservedNonzero))))
  ∧ (∀ (s : State) (tag a : Nat) (e : StationEntry), isStation a = true → stationEntryOk e = true →
    (s.router.hasEntry a = true ∨ (s.station a).state = .test) →
    CommandAtHead s tag ([1, 0, 2, BitVec.ofNat 8 a, 0] ++ encStationEntry e) →
    exec .loadStationTable s = .next (s.refused tag 1 .inUse))
  ∧ (∀ (s : State) (tag i r : Nat), i ≤ 11 → r < 2 ^ 40 → CommandAtHead s tag ([1, 0, 6, BitVec.ofNat 8 i, 0] ++ be 5 r) →
    (rateOk i r = false → exec .loadRates s = .next (s.refused tag 1 .badValue))
    ∧ (rateOk i r = true → s.day.state.frozen = true → exec .loadRates s = .next (s.refused tag 1 .wrongDayState)))
  ∧ (∀ (s : State) (tag i : Nat) (x : Currency), i ≤ 11 → currencyOk x = true →
    CommandAtHead s tag ([1, 0, 4, BitVec.ofNat 8 i, 0] ++ encCurrency x) →
    (s.tables.currencyFits i x = false → exec .loadCurrencies s = .next (s.refused tag 1 .badValue))
    ∧ (s.tables.currencyFits i x = true →
        (s.day.state.frozen = true → exec .loadCurrencies s = .next (s.refused tag 1 .wrongDayState))
        ∧ (s.day.state.frozen = false → s.currencyLoadInUse i = true → exec .loadCurrencies s = .next (s.refused tag 1 .inUse))))
  ∧ (∀ (s : State) (tag : Nat) (fields : List Byte) (lines : List LineIn), s.day.state.frozen = true →
    (Reader.list 1 16 readPendingLine).whole fields = .ok lines true [] → CommandAtHead s tag ([14, 0] ++ fields) →
    exec .loadPending s = .next (s.refused tag 14 .wrongDayState))
  ∧ (∀ (s : State) (tag : Nat) (c : Instr) (code : Byte) (fields : List Byte), CommandRow c code.toNat fields →
    CommandAtHead s tag (code :: 0 :: fields) →
    ((code = 4 ∨ code = 5) → fields.length = 5 →
      (2 ^ 35 ≤ ofBe fields → exec c s = .next (s.refused tag code .reservedNonzero))
      ∧ (ofBe fields = 0 → exec c s = .next (s.refused tag code .badValue)))
    ∧ (code = 6 → fields.length = 9 → (readDate (fields.take 8) = none ∨ fields[8]? ≠ some 0 ∧ fields[8]? ≠ some 1) →
        exec c s = .next (s.refused tag 6 .badValue))
    ∧ (∀ force, code = 6 → fields.length = 9 → readDate (fields.take 8) ≠ none → fields[8]? = some force →
        (force = 0 ∨ force = 1) →
        (s.day.state = .opened ∨ s.day.state = .closing ∨ s.day.state = .closed ∨ s.day.state = .sending ∨ s.day.state = .suspended
          ∨ (s.day.state = .rejected ∨ s.day.state = .failed) ∧ force = 0) →
        exec c s = .next (s.refused tag 6 .wrongDayState))
    ∧ (code = 7 → fields = [] → s.day.state ≠ .opened → exec c s = .next (s.refused tag 7 .wrongDayState))
    ∧ (code = 8 → fields = [] → s.day.state ≠ .sent → s.day.state ≠ .rejected → s.day.state ≠ .failed →
        exec c s = .next (s.refused tag 8 .wrongDayState))
    ∧ (code = 9 → fields.length = 3 → 86399 < ofBe fields → exec c s = .next (s.refused tag 9 .badValue))
    ∧ (code = 15 → fields.length = 12 →
        (allDigits fields = false → exec c s = .next (s.refused tag 15 .badValue))
        ∧ (allDigits fields = true →
            (s.day.state.frozen = true → exec c s = .next (s.refused tag 15 .wrongDayState))
            ∧ (s.day.state.frozen = false → s.jobHolds (fun r => r.account = fields) = true →
                exec c s = .next (s.refused tag 15 .inUse)))))
  ∧ (∀ (s : State) (tag : Nat) (a kind injection : Byte) (bytes : List Byte), bytes.length = 8 → (injection = 0 ∨ injection = 1) →
    CommandAtHead s tag ([12, 0, a, kind] ++ bytes ++ [injection]) →
    (isStation a.toNat = false → exec .loopTestStart s = .next (s.refused tag 12 .badIndex))
    ∧ (isStation a.toNat = true →
        (kind ≠ 1 → kind ≠ 2 → exec .loopTestStart s = .next (s.refused tag 12 .badValue))
        ∧ (kind = 2 → (∃ x ∈ bytes, x ≠ 0) → exec .loopTestStart s = .next (s.refused tag 12 .reservedNonzero))
        ∧ (kind = 1 ∨ kind = 2 ∧ (∀ x ∈ bytes, x = 0) → s.loop.test ≠ none ∨ s.router.hasEntry a.toNat = true →
            exec .loopTestStart s = .next (s.refused tag 12 .inUse))))
  ∧ ∀ (s : State) (tag : Nat) (d c : Byte) (fields : List Byte) (changes : List Change),
    readChanges.whole fields = .ok changes true [] → CommandAtHead s tag ([16, 0, d, c] ++ fields) →
    let business : Prop := s.day.state = .noDay ∨ s.day.state = .opened
    let fits := s.correctionOk d.toNat c.toNat changes
    ((isDrawer d.toNat = false ∨ 11 < c.toNat) → exec .postCorrection s = .next (s.refused tag 16 .badIndex))
    ∧ (isDrawer d.toNat = true → c.toNat ≤ 11 →
        (¬ business → exec .postCorrection s = .next (s.refused tag 16 .wrongDayState))
        ∧ (business → fits = false → exec .postCorrection s = .next (s.refused tag 16 .badValue))
        ∧ (business → fits = true → s.journalRoom = false → exec .postCorrection s = .next (s.refused tag 16 .journalFull)))

/-- R139 to R143, R152, R153: LOAD PENDING of one line. A reference in the store makes it a duplicate. A line that cannot be recorded is
counted and, with room in the journal, written there. Any other is stored: at the tail of its account's list, a new account taking the lowest
free slot; when the account then holds more lines than its threshold its oldest are merged into a summary line, and their sum stays; and in a
full store room is made first, by merging the oldest lines of the account itself when two of its lines may be merged, and otherwise those of
the account with the most lines, in the lowest slot: the line, of an account of the store or of a new one, is then appended and its account
judged against its threshold. CLEAR PENDING of an account whose book no job holds removes the account with all its lines and returns how many.
-/
def Obligations.PendingLinesLoadAndClear : Prop :=
  (∀ (s : State) (tag : Nat) (fields : List Byte) (l : LineIn), s.day.state.frozen = false →
    (Reader.list 1 16 readPendingLine).whole fields = .ok [l] true [] → CommandAtHead s tag ([14, 0] ++ fields) →
    let b := s.passbook
    let limit (k : Nat) := s.tables.threshold k
    let stored (c : PassbookCounters) : PassbookCounters := { c with stored := min (c.stored + 1) 65535 }
    let merged (c : PassbookCounters) : PassbookCounters := { c with summaries := min (c.summaries + 1) 65535 }
    let forRoom (c : PassbookCounters) : PassbookCounters := { c with fullStore := min (c.fullStore + 1) 65535 }
    ∃ t, exec .loadPending s = .next t ∧ SameManagement s t ∧ t.mgmt.unsaved = s.mgmt.unsaved
      ∧ t = { s with uplink := t.uplink, mgmt := t.mgmt, passbook := t.passbook, journal := t.journal, composer := t.composer }
      ∧ StatusLinesOnly s.composer t.composer ∧ t.passbook.jobs = b.jobs ∧ t.passbook.settlements = b.settlements
      ∧ (b.hasReference l.reference = true → AnsweredDone s t tag .loadPending [0, 1, 0] ∧ t.journal = s.journal
          ∧ t.passbook = { b with counters := { b.counters with duplicates := min (b.counters.duplicates + 1) 65535 } })
      ∧ (b.hasReference l.reference = false → b.CannotRecord l → AnsweredDone s t tag .loadPending [0, 0, 1]
          ∧ t.passbook = { b with counters := { b.counters with notRecorded := min (b.counters.notRecorded + 1) 65535 } }
          ∧ (roomInUse s.journal s.router < Config.journalCapacity →
              t.journal.entries = s.journal.entries ++ [{ JEntry.ofKind .passbookNotRecorded with
                sequence := s.journal.counter + 1, time := s.mgmt.clock, account := some l.account, reference := some l.reference }])
          ∧ (Config.journalCapacity ≤ roomInUse s.journal s.router →
              t.journal = { s.journal with omitted := min (s.journal.omitted + 1) 65535 }))
      ∧ (b.hasReference l.reference = false → ¬ b.CannotRecord l → AnsweredDone s t tag .loadPending [1, 0, 0] ∧ t.journal = s.journal
          ∧ (b.lineCount < Config.storeCapacity →
              (∀ i x, b.find l.account = some (i, x) → x.lines.length < limit l.bookType → t.passbook = { b with
                  slots := put b.slots i (some { x with bookType := l.bookType, lines := x.lines ++ [l.toLine] })
                  counters := stored b.counters })
              ∧ (∀ i, b.find l.account = none → b.LowestFree i → t.passbook = { b with
                  slots := put b.slots i (some ⟨l.account, l.bookType, [l.toLine]⟩), counters := stored b.counters })
              ∧ (∀ i x, b.find l.account = some (i, x) → (∀ m ∈ x.lines.drop 1, m.inPrint = false) → 4 ≤ limit l.bookType →
                  limit l.bookType ≤ x.lines.length → ∃ after,
                  LinesMerged (x.lines.length + 1 - limit l.bookType + (limit l.bookType + 1) / 2) (x.lines ++ [l.toLine]) after
                  ∧ (after.map PLine.amount).sum = (x.lines.map PLine.amount).sum + l.amount
                  ∧ t.passbook = { b with
                      slots := put b.slots i (some { x with bookType := l.bookType, lines := after })
                      counters := merged (stored b.counters) }))
          ∧ (Config.storeCapacity ≤ b.lineCount → ∀ j y, b.MakesRoom l.account j y → 2 ≤ mergeableCount y.lines →
              (∀ i x, look b.slots i = some x → ∀ m ∈ x.lines.drop 1, m.inPrint = false) → 4 ≤ limit l.bookType →
              ∃ room, LinesMerged (min ((limit y.bookType + 1) / 2 + 1) (mergeableCount y.lines)) y.lines room ∧
              let slots := put b.slots j (some { y with lines := room })
              let counters := stored (forRoom (merged b.counters))
              (∀ i, b.find l.account = none → b.LowestFree i → t.passbook = { b with
                  slots := put slots i (some ⟨l.account, l.bookType, [l.toLine]⟩), counters })
              ∧ ∀ i x, b.find l.account = some (i, x) →
                let held := if i = j then room else x.lines
                (held.length < limit l.bookType → t.passbook = { b with
                    slots := put slots i (some { x with bookType := l.bookType, lines := held ++ [l.toLine] }), counters })
                ∧ (limit l.bookType ≤ held.length → ∃ after,
                    LinesMerged (held.length + 1 - limit l.bookType + (limit l.bookType + 1) / 2) (held ++ [l.toLine]) after
                    ∧ t.passbook = { b with
                        slots := put slots i (some { x with bookType := l.bookType, lines := after }), counters := merged counters }))))
  ∧ ∀ (s : State) (tag : Nat) (account : List Byte), account.length = 12 → allDigits account = true →
    s.day.state.frozen = false → s.jobHolds (fun r => r.account = account) = false →
    CommandAtHead s tag ([15, 0] ++ account) →
    ∃ t, exec .clearPending s = .next t ∧ AnsweredDone s t tag .clearPending (be 2 (s.passbook.linesOf account).length)
      ∧ SameManagement s t ∧ t.mgmt.unsaved = s.mgmt.unsaved
      ∧ t = { s with uplink := t.uplink, mgmt := t.mgmt, passbook := { s.passbook with slots := t.passbook.slots } }
      ∧ (∀ i x, s.passbook.find account = some (i, x) → t.passbook.slots = put s.passbook.slots i none)
      ∧ (s.passbook.find account = none → t.passbook.slots = s.passbook.slots)

/-- R88, R89: POST CORRECTION that passes its tests: the on-hand counts move by the changes, the balance record of the currency is cleared, the
position is recomputed and the limit state evaluated, and a CORRECTION entry carrying the net value, the tag and the changes is
written, whose sequence is returned. No other drawer changes. -/
def Obligations.CorrectionIsPosted : Prop :=
  ∀ (s : State) (tag d c : Nat) (fields : List Byte) (changes : List Change), isDrawer d = true → c ≤ 11 →
    (s.day.state = .noDay ∨ s.day.state = .opened) → readChanges.whole fields = .ok changes true [] →
    s.correctionOk d c changes = true → s.journalRoom = true →
    CommandAtHead s tag ([16, 0, BitVec.ofNat 8 d, BitVec.ofNat 8 c] ++ fields) →
    let net := netValue (s.tables.denom c) changes
    ∃ t, exec .postCorrection s = .next t ∧ AnsweredDone s t tag .postCorrection (be 2 (s.journal.counter + 1))
      ∧ SameManagement s t ∧ t.mgmt.unsaved = s.mgmt.unsaved
      ∧ t = { s with uplink := t.uplink, mgmt := t.mgmt, drawers := put s.drawers d (t.drawer d), journal := t.journal
                     composer := t.composer }
      ∧ (look (t.drawer d).currencies c).pieces = applyChanges changes (look (s.drawer d).currencies c).pieces
      ∧ (look (t.drawer d).currencies c).balance = none
      ∧ (t.drawer d).position = (s.tables.position (t.drawer d)).1
      ∧ (t.drawer d).limit = evalLimit (s.tables.limit d) (s.drawer d).limit (t.drawer d).position
      ∧ ∃ e, t.journal.entries = s.journal.entries ++ [e] ∧ e.sequence = s.journal.counter + 1 ∧ e.time = s.mgmt.clock
          ∧ e.kind = .correction ∧ e.drawer = some d ∧ e.detail = some (.correction tag changes)
          ∧ e.legs = [{ currency := c, dir := if net < 0 then .cashOut else .cashIn, amount := net.natAbs, cash := net.natAbs
                        posted := some ⟨(s.tables.reckon c net.natAbs).1, s.tables.rate c⟩, inDoubt := false }]

/-! ### Settings, starts -/

/-- R194, R200, R201: a save. SAVE SETTINGS with an image that fits makes the part UNCONFIGURED, starts both timers, and stays in flight
without a response; the mark in the memory is cleared, so that a cold start during the save finds it so. A write reported complete stands in
the memory and the next follows with its own timer; after the last the image is read back, and with the right check the valid mark is
written; that write's completion makes the part CONFIGURED, clears the unsaved mark, and answers DONE with WRITTEN and the length. A write
not complete in time, the save timer's expiry, and an image read back with the wrong check each end the save NOT WRITTEN: the mark is
cleared in the memory, the configured state and the unsaved mark stay, and the command is answered DONE with that outcome and the length.
With an image that would not fit the memory, SAVE SETTINGS is answered at once DONE with TOO LARGE and the length, which is kept as the last
save outcome, and nothing is written. The unit of a write, and that it reaches the memory when it is reported complete, are the model's
choice (log entry 12), and so is that a clearing of the mark stands at once (log entry 13). That the check is right when the one computed
over the image read back is the one written, the check field read back not being compared, is the model's reading (log entry 52). -/
def Obligations.SaveRunsToItsOutcome : Prop :=
  (∀ (s : State) (tag : Nat), s.tables.imageLength ≤ Config.settingsBytes → CommandAtHead s tag [10, 0] →
    ∃ t x, exec .saveSettings s = .next t
      ∧ t = { s with uplink := s.uplink.afterGood, mgmt := { s.mgmt with
          configured := false, save := some x, taken := bump s.mgmt.taken, inFlight := some ⟨10, tag⟩
          memory := Memory.writeBytes s.mgmt.memory 0 clearedMark } }
      ∧ x.image = s.tables.image ∧ x.step = .writing ∧ x.writeTimer = some 100 ∧ x.saveTimer = some 3000
      ∧ ∃ tables, x.writes = ⟨0, clearedMark⟩ :: ⟨2, be 2 s.tables.imageLength⟩ ::
            (tables ++ [⟨4, imageCheck s.tables.imageLength s.tables.bytes⟩])
          ∧ tables.length = 10 ∧ (tables.map MemWrite.bytes).flatten = s.tables.bytes
          ∧ ∀ k w, tables[k]? = some w → w.addr = 6 + ((tables.take k).map MemWrite.bytes).flatten.length)
  ∧ (∀ (s : State) (tag : Nat), Config.settingsBytes < s.tables.imageLength → CommandAtHead s tag [10, 0] →
    exec .saveSettings s = .next { s with
      uplink := { s.uplink.afterGood with control := s.uplink.control ++
        [⟨.mgmtResp, tag, [10, 0, 0] ++ s.mgmt.stateByte ++ by1 3 ++ be 3 s.tables.imageLength⟩] }
      mgmt := { s.mgmt with lastSave := .tooLarge, taken := bump s.mgmt.taken, inFlight := none } })
  ∧ (∀ (s : State) (x : Save) (w w' : MemWrite) (rest : List MemWrite), s.mgmt.save = some x → x.writes = w :: w' :: rest →
    exec .settingsWriteComplete s = .next { s with mgmt := { s.mgmt with
      memory := Memory.writeBytes s.mgmt.memory w.addr w.bytes
      save := some { x with writes := w' :: rest, writeTimer := some 100 } } })
  ∧ (∀ (s : State) (x : Save) (w : MemWrite), s.mgmt.save = some x → x.writes = [w] → x.step = .writing →
    exec .settingsWriteComplete s = .next { s with mgmt := { s.mgmt with
      memory := Memory.writeBytes s.mgmt.memory w.addr w.bytes
      save := some { x with writes := [], step := .readingBack, writeTimer := none } } })
  ∧ (∀ (s : State) (x : Save) (answer : MemoryAnswer), s.mgmt.save = some x → x.step = .readingBack →
    readBackAgrees x.image (s.memoryAnswer x.image.length answer) = true →
    exec (.settingsReadBack answer) s = .next { s with mgmt := { s.mgmt with
      save := some { x with step := .marking, writes := [⟨0, validMark⟩], writeTimer := some 100 } } })
  ∧ (∀ (s : State) (x : Save) (w : MemWrite) (f : InFlight), s.mgmt.save = some x → x.writes = [w] → x.step = .marking →
    s.mgmt.inFlight = some f →
    exec .settingsWriteComplete s = .next { s with
      uplink := { s.uplink with control := s.uplink.control ++
        [⟨.mgmtResp, f.tag, by1 f.command ++ [0, 0, 1] ++ by1 1 ++ be 3 x.image.length⟩] }
      mgmt := { s.mgmt with
        memory := Memory.writeBytes s.mgmt.memory w.addr w.bytes, configured := true, unsaved := false
        lastLength := x.image.length, lastSave := .written, save := none, inFlight := none } })
  ∧ ∀ (s : State) (x : Save) (f : InFlight) (c : Instr), s.mgmt.save = some x → s.mgmt.inFlight = some f →
    (c = .settingsWriteTimeout ∧ x.writeTimer ≠ none ∨ c = .saveTimer ∧ x.saveTimer ≠ none
      ∨ ∃ answer, c = .settingsReadBack answer ∧ x.step = .readingBack
          ∧ readBackAgrees x.image (s.memoryAnswer x.image.length answer) = false) →
    exec c s = .next { s with
      uplink := { s.uplink with control := s.uplink.control ++
        [⟨.mgmtResp, f.tag, by1 f.command ++ [0, 0] ++ s.mgmt.stateByte ++ by1 2 ++ be 3 x.image.length⟩] }
      mgmt := { s.mgmt with
        memory := Memory.writeBytes s.mgmt.memory 0 clearedMark, lastSave := .notWritten, save := none, inFlight := none } }

/-- R20, R37, R38, R54, R65, R93, R115, R133, R134, R156, R161, R167, R191, R200, R202 to R205: the starts. RESTART, with a command in flight
or a save in progress too: it is in flight and unanswered, a command in flight is abandoned without a response, and a save is broken off as at
NOT WRITTEN. The link is DOWN or seeking carrier with empty transmit queues but for a SYNC; every station is ABSENT, a SIGNED one keeping its
teller ID, and one that is ABSENT already too (log entry 33); each port begins afresh, its reset pulse too (log entry 50); no print job is
left, and the lines in print lose their mark or, in a frozen day, are settled as not printed; the windows are blank and the alert queues empty
but for the LINK LOST results; each request completes LINK LOST, its entry in the journal, its OUT legs released, a SENT one in doubt; the
RESTART entry follows where the day is not frozen; a SENDING day is SUSPENDED, and one in CLOSING closes its drawers and is CLOSED. The
tables, the clock, the pending lines, the earlier journal entries, the drawers' on-hand counts and the counters stay; the warm start count
stays at 65,535 once there (log entry 26). Once the link has entered UP the response is offered and the command is no longer in flight.
Power-up, and the release of RESET when it was asserted, clear the part and leave it reading the settings image, the settings memory and
CARRIER as they were; RESET held leaves it cleared. That a power-up while RESET is held leaves it held, the cold start being that of the
release with cause RESET PIN, is the model's choice (log entry 56). That no reset pulse runs before the cold starts of the blocks is the
model's choice (log entry 11). A sound image gives its tables and CONFIGURED; one that is not sound, and a memory that does not answer in
time, give every default and UNCONFIGURED. The blocks' cold starts are then made: with carrier present the link begins to seek, the enabled
ports are NOT READY with a poll due, and nothing else runs; which cells of a screen are dirty then is the model's choice (log entry 25). -/
def Obligations.RestartAndColdStarts : Prop :=
  (∀ (s : State) (tag : Nat), CommandHanded s tag [11, 0] →
    ∃ t, exec .restart s = .next t ∧ WarmStarted s t
      ∧ t.mgmt = { s.mgmt with
          inFlight := some ⟨11, tag⟩, taken := bump s.mgmt.taken, warmStarts := min (s.mgmt.warmStarts + 1) 65535
          restart := some { linkLost := s.router.stationEntries.length, entry := s.restartOutcome, day := t.day.state, upSeen := false }
          save := none
          configured := if s.mgmt.save = none then s.mgmt.configured else false
          lastSave := if s.mgmt.save = none then s.mgmt.lastSave else .notWritten
          memory := if s.mgmt.save = none then s.mgmt.memory else Memory.writeBytes s.mgmt.memory 0 clearedMark }
      ∧ ∀ d, isDrawer d = true → ∀ c, (look (t.drawer d).currencies c).pieces.map Pieces.onHand
          = (look (s.drawer d).currencies c).pieces.map Pieces.onHand)
  ∧ (∀ (s : State) (r : RestartInfo) (f : InFlight), s.mgmt.restart = some r → s.mgmt.inFlight = some f → r.upSeen = true →
    exec .restartResponse s = .next { s with
      uplink := { s.uplink with control := s.uplink.control ++
        [⟨.mgmtResp, f.tag, by1 f.command ++ [0, 0] ++ s.mgmt.stateByte ++ restartReturn r⟩] }
      mgmt := { s.mgmt with restart := none, inFlight := none } })
  ∧ (∀ s : State,
    let begun (cause : StartCause) : State :=
      { State.cold s.pending s.carrier s.free Tables.defaults (Mgmt.cold cause false s.mgmt.memory) .readingImage with
        ports := Vector.replicate 8 { Port.cold with pulseTimer := none } }
    (s.phase ≠ .resetHeld → exec .powerUp s = .next (begun .powerUp))
    ∧ (s.phase = .resetHeld → exec .powerUp s = .next { begun .resetPin with phase := .resetHeld })
    ∧ (s.phase = .resetHeld → exec .resetReleased s = .next (begun .resetPin))
    ∧ exec .resetAsserted s = .next { begun .resetPin with phase := .resetHeld })
  ∧ ∀ (s : State) (c : Instr) (r : Option Tables), s.phase = .readingImage →
    (c = .settingsReadTimeout ∧ r = none
      ∨ ∃ answer, c = .settingsImageRead answer ∧ r = readImage (s.memoryAnswer Config.settingsBytes answer)) →
    let t := r.getD Tables.defaults
    let cold := State.cold s.pending s.carrier s.free t (Mgmt.cold s.mgmt.cause r.isSome s.mgmt.memory) .running
    ∃ u, exec c s = .next u
      ∧ u = { cold with uplink := u.uplink, ports := u.ports, composer := u.composer }
      ∧ StatusLinesOnly cold.composer u.composer
      ∧ u.uplink = (if s.carrier = true then { Uplink.cold t.params with
          link := .sync, attemptTimer := some 5000, syncTimer := some 250, control := [⟨.sync, 0, []⟩] } else Uplink.cold t.params)
      ∧ (∀ p, isPort p = true →
          (bitSet t.params.enables (p - 1) = false → u.port p = Port.cold)
          ∧ (bitSet t.params.enables (p - 1) = true → (u.port p).state = .notReady ∧ (u.port p).readyTimer = some 10000
              ∧ (u.port p).pulseTimer = some 10 ∧ (u.port p).due = true ∧ (u.port p).dialogue = .none ∧ (u.port p).poll = true
              ∧ (u.port p).order = some (Order.plain .statusRequest)))
      ∧ (s.carrier = false → t.params.enables = 0 → u = cold)
end

