-- ==== Sys2Proof/Laws/State.lean ====
section
/-! SUPPORT. One lemma for each field and each update of the state, and the laws of numbered entries, so that no later proof unfolds a
record update. -/

namespace Sys2Proof.Machine

section onTables
variable (f : Tables → Tables) (s : State)
@[simp] theorem State.onTables_pending : (s.onTables f).pending = s.pending := rfl
@[simp] theorem State.onTables_phase : (s.onTables f).phase = s.phase := rfl
@[simp] theorem State.onTables_carrier : (s.onTables f).carrier = s.carrier := rfl
@[simp] theorem State.onTables_free : (s.onTables f).free = s.free := rfl
@[simp] theorem State.onTables_tables : (s.onTables f).tables = f s.tables := rfl
@[simp] theorem State.onTables_loop : (s.onTables f).loop = s.loop := rfl
@[simp] theorem State.onTables_uplink : (s.onTables f).uplink = s.uplink := rfl
@[simp] theorem State.onTables_router : (s.onTables f).router = s.router := rfl
@[simp] theorem State.onTables_drawers : (s.onTables f).drawers = s.drawers := rfl
@[simp] theorem State.onTables_composer : (s.onTables f).composer = s.composer := rfl
@[simp] theorem State.onTables_ports : (s.onTables f).ports = s.ports := rfl
@[simp] theorem State.onTables_passbook : (s.onTables f).passbook = s.passbook := rfl
@[simp] theorem State.onTables_journal : (s.onTables f).journal = s.journal := rfl
@[simp] theorem State.onTables_day : (s.onTables f).day = s.day := rfl
@[simp] theorem State.onTables_mgmt : (s.onTables f).mgmt = s.mgmt := rfl
end onTables

section onLoop
variable (f : Loop → Loop) (s : State)
@[simp] theorem State.onLoop_pending : (s.onLoop f).pending = s.pending := rfl
@[simp] theorem State.onLoop_phase : (s.onLoop f).phase = s.phase := rfl
@[simp] theorem State.onLoop_carrier : (s.onLoop f).carrier = s.carrier := rfl
@[simp] theorem State.onLoop_free : (s.onLoop f).free = s.free := rfl
@[simp] theorem State.onLoop_tables : (s.onLoop f).tables = s.tables := rfl
@[simp] theorem State.onLoop_loop : (s.onLoop f).loop = f s.loop := rfl
@[simp] theorem State.onLoop_uplink : (s.onLoop f).uplink = s.uplink := rfl
@[simp] theorem State.onLoop_router : (s.onLoop f).router = s.router := rfl
@[simp] theorem State.onLoop_drawers : (s.onLoop f).drawers = s.drawers := rfl
@[simp] theorem State.onLoop_composer : (s.onLoop f).composer = s.composer := rfl
@[simp] theorem State.onLoop_ports : (s.onLoop f).ports = s.ports := rfl
@[simp] theorem State.onLoop_passbook : (s.onLoop f).passbook = s.passbook := rfl
@[simp] theorem State.onLoop_journal : (s.onLoop f).journal = s.journal := rfl
@[simp] theorem State.onLoop_day : (s.onLoop f).day = s.day := rfl
@[simp] theorem State.onLoop_mgmt : (s.onLoop f).mgmt = s.mgmt := rfl
end onLoop

section onUplink
variable (f : Uplink → Uplink) (s : State)
@[simp] theorem State.onUplink_pending : (s.onUplink f).pending = s.pending := rfl
@[simp] theorem State.onUplink_phase : (s.onUplink f).phase = s.phase := rfl
@[simp] theorem State.onUplink_carrier : (s.onUplink f).carrier = s.carrier := rfl
@[simp] theorem State.onUplink_free : (s.onUplink f).free = s.free := rfl
@[simp] theorem State.onUplink_tables : (s.onUplink f).tables = s.tables := rfl
@[simp] theorem State.onUplink_loop : (s.onUplink f).loop = s.loop := rfl
@[simp] theorem State.onUplink_uplink : (s.onUplink f).uplink = f s.uplink := rfl
@[simp] theorem State.onUplink_router : (s.onUplink f).router = s.router := rfl
@[simp] theorem State.onUplink_drawers : (s.onUplink f).drawers = s.drawers := rfl
@[simp] theorem State.onUplink_composer : (s.onUplink f).composer = s.composer := rfl
@[simp] theorem State.onUplink_ports : (s.onUplink f).ports = s.ports := rfl
@[simp] theorem State.onUplink_passbook : (s.onUplink f).passbook = s.passbook := rfl
@[simp] theorem State.onUplink_journal : (s.onUplink f).journal = s.journal := rfl
@[simp] theorem State.onUplink_day : (s.onUplink f).day = s.day := rfl
@[simp] theorem State.onUplink_mgmt : (s.onUplink f).mgmt = s.mgmt := rfl
end onUplink

section onRouter
variable (f : Router → Router) (s : State)
@[simp] theorem State.onRouter_pending : (s.onRouter f).pending = s.pending := rfl
@[simp] theorem State.onRouter_phase : (s.onRouter f).phase = s.phase := rfl
@[simp] theorem State.onRouter_carrier : (s.onRouter f).carrier = s.carrier := rfl
@[simp] theorem State.onRouter_free : (s.onRouter f).free = s.free := rfl
@[simp] theorem State.onRouter_tables : (s.onRouter f).tables = s.tables := rfl
@[simp] theorem State.onRouter_loop : (s.onRouter f).loop = s.loop := rfl
@[simp] theorem State.onRouter_uplink : (s.onRouter f).uplink = s.uplink := rfl
@[simp] theorem State.onRouter_router : (s.onRouter f).router = f s.router := rfl
@[simp] theorem State.onRouter_drawers : (s.onRouter f).drawers = s.drawers := rfl
@[simp] theorem State.onRouter_composer : (s.onRouter f).composer = s.composer := rfl
@[simp] theorem State.onRouter_ports : (s.onRouter f).ports = s.ports := rfl
@[simp] theorem State.onRouter_passbook : (s.onRouter f).passbook = s.passbook := rfl
@[simp] theorem State.onRouter_journal : (s.onRouter f).journal = s.journal := rfl
@[simp] theorem State.onRouter_day : (s.onRouter f).day = s.day := rfl
@[simp] theorem State.onRouter_mgmt : (s.onRouter f).mgmt = s.mgmt := rfl
end onRouter

section onDrawers
variable (f : Vector Drawer 17 → Vector Drawer 17) (s : State)
@[simp] theorem State.onDrawers_pending : (s.onDrawers f).pending = s.pending := rfl
@[simp] theorem State.onDrawers_phase : (s.onDrawers f).phase = s.phase := rfl
@[simp] theorem State.onDrawers_carrier : (s.onDrawers f).carrier = s.carrier := rfl
@[simp] theorem State.onDrawers_free : (s.onDrawers f).free = s.free := rfl
@[simp] theorem State.onDrawers_tables : (s.onDrawers f).tables = s.tables := rfl
@[simp] theorem State.onDrawers_loop : (s.onDrawers f).loop = s.loop := rfl
@[simp] theorem State.onDrawers_uplink : (s.onDrawers f).uplink = s.uplink := rfl
@[simp] theorem State.onDrawers_router : (s.onDrawers f).router = s.router := rfl
@[simp] theorem State.onDrawers_drawers : (s.onDrawers f).drawers = f s.drawers := rfl
@[simp] theorem State.onDrawers_composer : (s.onDrawers f).composer = s.composer := rfl
@[simp] theorem State.onDrawers_ports : (s.onDrawers f).ports = s.ports := rfl
@[simp] theorem State.onDrawers_passbook : (s.onDrawers f).passbook = s.passbook := rfl
@[simp] theorem State.onDrawers_journal : (s.onDrawers f).journal = s.journal := rfl
@[simp] theorem State.onDrawers_day : (s.onDrawers f).day = s.day := rfl
@[simp] theorem State.onDrawers_mgmt : (s.onDrawers f).mgmt = s.mgmt := rfl
end onDrawers

section onComposer
variable (f : Composer → Composer) (s : State)
@[simp] theorem State.onComposer_pending : (s.onComposer f).pending = s.pending := rfl
@[simp] theorem State.onComposer_phase : (s.onComposer f).phase = s.phase := rfl
@[simp] theorem State.onComposer_carrier : (s.onComposer f).carrier = s.carrier := rfl
@[simp] theorem State.onComposer_free : (s.onComposer f).free = s.free := rfl
@[simp] theorem State.onComposer_tables : (s.onComposer f).tables = s.tables := rfl
@[simp] theorem State.onComposer_loop : (s.onComposer f).loop = s.loop := rfl
@[simp] theorem State.onComposer_uplink : (s.onComposer f).uplink = s.uplink := rfl
@[simp] theorem State.onComposer_router : (s.onComposer f).router = s.router := rfl
@[simp] theorem State.onComposer_drawers : (s.onComposer f).drawers = s.drawers := rfl
@[simp] theorem State.onComposer_composer : (s.onComposer f).composer = f s.composer := rfl
@[simp] theorem State.onComposer_ports : (s.onComposer f).ports = s.ports := rfl
@[simp] theorem State.onComposer_passbook : (s.onComposer f).passbook = s.passbook := rfl
@[simp] theorem State.onComposer_journal : (s.onComposer f).journal = s.journal := rfl
@[simp] theorem State.onComposer_day : (s.onComposer f).day = s.day := rfl
@[simp] theorem State.onComposer_mgmt : (s.onComposer f).mgmt = s.mgmt := rfl
end onComposer

section onPorts
variable (f : Vector Port 8 → Vector Port 8) (s : State)
@[simp] theorem State.onPorts_pending : (s.onPorts f).pending = s.pending := rfl
@[simp] theorem State.onPorts_phase : (s.onPorts f).phase = s.phase := rfl
@[simp] theorem State.onPorts_carrier : (s.onPorts f).carrier = s.carrier := rfl
@[simp] theorem State.onPorts_free : (s.onPorts f).free = s.free := rfl
@[simp] theorem State.onPorts_tables : (s.onPorts f).tables = s.tables := rfl
@[simp] theorem State.onPorts_loop : (s.onPorts f).loop = s.loop := rfl
@[simp] theorem State.onPorts_uplink : (s.onPorts f).uplink = s.uplink := rfl
@[simp] theorem State.onPorts_router : (s.onPorts f).router = s.router := rfl
@[simp] theorem State.onPorts_drawers : (s.onPorts f).drawers = s.drawers := rfl
@[simp] theorem State.onPorts_composer : (s.onPorts f).composer = s.composer := rfl
@[simp] theorem State.onPorts_ports : (s.onPorts f).ports = f s.ports := rfl
@[simp] theorem State.onPorts_passbook : (s.onPorts f).passbook = s.passbook := rfl
@[simp] theorem State.onPorts_journal : (s.onPorts f).journal = s.journal := rfl
@[simp] theorem State.onPorts_day : (s.onPorts f).day = s.day := rfl
@[simp] theorem State.onPorts_mgmt : (s.onPorts f).mgmt = s.mgmt := rfl
end onPorts

section onPassbook
variable (f : Passbook → Passbook) (s : State)
@[simp] theorem State.onPassbook_pending : (s.onPassbook f).pending = s.pending := rfl
@[simp] theorem State.onPassbook_phase : (s.onPassbook f).phase = s.phase := rfl
@[simp] theorem State.onPassbook_carrier : (s.onPassbook f).carrier = s.carrier := rfl
@[simp] theorem State.onPassbook_free : (s.onPassbook f).free = s.free := rfl
@[simp] theorem State.onPassbook_tables : (s.onPassbook f).tables = s.tables := rfl
@[simp] theorem State.onPassbook_loop : (s.onPassbook f).loop = s.loop := rfl
@[simp] theorem State.onPassbook_uplink : (s.onPassbook f).uplink = s.uplink := rfl
@[simp] theorem State.onPassbook_router : (s.onPassbook f).router = s.router := rfl
@[simp] theorem State.onPassbook_drawers : (s.onPassbook f).drawers = s.drawers := rfl
@[simp] theorem State.onPassbook_composer : (s.onPassbook f).composer = s.composer := rfl
@[simp] theorem State.onPassbook_ports : (s.onPassbook f).ports = s.ports := rfl
@[simp] theorem State.onPassbook_passbook : (s.onPassbook f).passbook = f s.passbook := rfl
@[simp] theorem State.onPassbook_journal : (s.onPassbook f).journal = s.journal := rfl
@[simp] theorem State.onPassbook_day : (s.onPassbook f).day = s.day := rfl
@[simp] theorem State.onPassbook_mgmt : (s.onPassbook f).mgmt = s.mgmt := rfl
end onPassbook

section onJournal
variable (f : Journal → Journal) (s : State)
@[simp] theorem State.onJournal_pending : (s.onJournal f).pending = s.pending := rfl
@[simp] theorem State.onJournal_phase : (s.onJournal f).phase = s.phase := rfl
@[simp] theorem State.onJournal_carrier : (s.onJournal f).carrier = s.carrier := rfl
@[simp] theorem State.onJournal_free : (s.onJournal f).free = s.free := rfl
@[simp] theorem State.onJournal_tables : (s.onJournal f).tables = s.tables := rfl
@[simp] theorem State.onJournal_loop : (s.onJournal f).loop = s.loop := rfl
@[simp] theorem State.onJournal_uplink : (s.onJournal f).uplink = s.uplink := rfl
@[simp] theorem State.onJournal_router : (s.onJournal f).router = s.router := rfl
@[simp] theorem State.onJournal_drawers : (s.onJournal f).drawers = s.drawers := rfl
@[simp] theorem State.onJournal_composer : (s.onJournal f).composer = s.composer := rfl
@[simp] theorem State.onJournal_ports : (s.onJournal f).ports = s.ports := rfl
@[simp] theorem State.onJournal_passbook : (s.onJournal f).passbook = s.passbook := rfl
@[simp] theorem State.onJournal_journal : (s.onJournal f).journal = f s.journal := rfl
@[simp] theorem State.onJournal_day : (s.onJournal f).day = s.day := rfl
@[simp] theorem State.onJournal_mgmt : (s.onJournal f).mgmt = s.mgmt := rfl
end onJournal

section onDay
variable (f : Day → Day) (s : State)
@[simp] theorem State.onDay_pending : (s.onDay f).pending = s.pending := rfl
@[simp] theorem State.onDay_phase : (s.onDay f).phase = s.phase := rfl
@[simp] theorem State.onDay_carrier : (s.onDay f).carrier = s.carrier := rfl
@[simp] theorem State.onDay_free : (s.onDay f).free = s.free := rfl
@[simp] theorem State.onDay_tables : (s.onDay f).tables = s.tables := rfl
@[simp] theorem State.onDay_loop : (s.onDay f).loop = s.loop := rfl
@[simp] theorem State.onDay_uplink : (s.onDay f).uplink = s.uplink := rfl
@[simp] theorem State.onDay_router : (s.onDay f).router = s.router := rfl
@[simp] theorem State.onDay_drawers : (s.onDay f).drawers = s.drawers := rfl
@[simp] theorem State.onDay_composer : (s.onDay f).composer = s.composer := rfl
@[simp] theorem State.onDay_ports : (s.onDay f).ports = s.ports := rfl
@[simp] theorem State.onDay_passbook : (s.onDay f).passbook = s.passbook := rfl
@[simp] theorem State.onDay_journal : (s.onDay f).journal = s.journal := rfl
@[simp] theorem State.onDay_day : (s.onDay f).day = f s.day := rfl
@[simp] theorem State.onDay_mgmt : (s.onDay f).mgmt = s.mgmt := rfl
end onDay

section onMgmt
variable (f : Mgmt → Mgmt) (s : State)
@[simp] theorem State.onMgmt_pending : (s.onMgmt f).pending = s.pending := rfl
@[simp] theorem State.onMgmt_phase : (s.onMgmt f).phase = s.phase := rfl
@[simp] theorem State.onMgmt_carrier : (s.onMgmt f).carrier = s.carrier := rfl
@[simp] theorem State.onMgmt_free : (s.onMgmt f).free = s.free := rfl
@[simp] theorem State.onMgmt_tables : (s.onMgmt f).tables = s.tables := rfl
@[simp] theorem State.onMgmt_loop : (s.onMgmt f).loop = s.loop := rfl
@[simp] theorem State.onMgmt_uplink : (s.onMgmt f).uplink = s.uplink := rfl
@[simp] theorem State.onMgmt_router : (s.onMgmt f).router = s.router := rfl
@[simp] theorem State.onMgmt_drawers : (s.onMgmt f).drawers = s.drawers := rfl
@[simp] theorem State.onMgmt_composer : (s.onMgmt f).composer = s.composer := rfl
@[simp] theorem State.onMgmt_ports : (s.onMgmt f).ports = s.ports := rfl
@[simp] theorem State.onMgmt_passbook : (s.onMgmt f).passbook = s.passbook := rfl
@[simp] theorem State.onMgmt_journal : (s.onMgmt f).journal = s.journal := rfl
@[simp] theorem State.onMgmt_day : (s.onMgmt f).day = s.day := rfl
@[simp] theorem State.onMgmt_mgmt : (s.onMgmt f).mgmt = f s.mgmt := rfl
end onMgmt

section onStation
variable (a : Nat) (f : StationRec → StationRec) (s : State)
@[simp] theorem State.onStation_pending : (s.onStation a f).pending = s.pending := rfl
@[simp] theorem State.onStation_phase : (s.onStation a f).phase = s.phase := rfl
@[simp] theorem State.onStation_carrier : (s.onStation a f).carrier = s.carrier := rfl
@[simp] theorem State.onStation_free : (s.onStation a f).free = s.free := rfl
@[simp] theorem State.onStation_tables : (s.onStation a f).tables = s.tables := rfl
@[simp] theorem State.onStation_uplink : (s.onStation a f).uplink = s.uplink := rfl
@[simp] theorem State.onStation_router : (s.onStation a f).router = s.router := rfl
@[simp] theorem State.onStation_drawers : (s.onStation a f).drawers = s.drawers := rfl
@[simp] theorem State.onStation_composer : (s.onStation a f).composer = s.composer := rfl
@[simp] theorem State.onStation_ports : (s.onStation a f).ports = s.ports := rfl
@[simp] theorem State.onStation_passbook : (s.onStation a f).passbook = s.passbook := rfl
@[simp] theorem State.onStation_journal : (s.onStation a f).journal = s.journal := rfl
@[simp] theorem State.onStation_day : (s.onStation a f).day = s.day := rfl
@[simp] theorem State.onStation_mgmt : (s.onStation a f).mgmt = s.mgmt := rfl
end onStation

section onScreen
variable (a : Nat) (f : StationScreen → StationScreen) (s : State)
@[simp] theorem State.onScreen_pending : (s.onScreen a f).pending = s.pending := rfl
@[simp] theorem State.onScreen_phase : (s.onScreen a f).phase = s.phase := rfl
@[simp] theorem State.onScreen_carrier : (s.onScreen a f).carrier = s.carrier := rfl
@[simp] theorem State.onScreen_free : (s.onScreen a f).free = s.free := rfl
@[simp] theorem State.onScreen_tables : (s.onScreen a f).tables = s.tables := rfl
@[simp] theorem State.onScreen_loop : (s.onScreen a f).loop = s.loop := rfl
@[simp] theorem State.onScreen_uplink : (s.onScreen a f).uplink = s.uplink := rfl
@[simp] theorem State.onScreen_router : (s.onScreen a f).router = s.router := rfl
@[simp] theorem State.onScreen_drawers : (s.onScreen a f).drawers = s.drawers := rfl
@[simp] theorem State.onScreen_ports : (s.onScreen a f).ports = s.ports := rfl
@[simp] theorem State.onScreen_passbook : (s.onScreen a f).passbook = s.passbook := rfl
@[simp] theorem State.onScreen_journal : (s.onScreen a f).journal = s.journal := rfl
@[simp] theorem State.onScreen_day : (s.onScreen a f).day = s.day := rfl
@[simp] theorem State.onScreen_mgmt : (s.onScreen a f).mgmt = s.mgmt := rfl
end onScreen

section onPort
variable (p : Nat) (f : Port → Port) (s : State)
@[simp] theorem State.onPort_pending : (s.onPort p f).pending = s.pending := rfl
@[simp] theorem State.onPort_phase : (s.onPort p f).phase = s.phase := rfl
@[simp] theorem State.onPort_carrier : (s.onPort p f).carrier = s.carrier := rfl
@[simp] theorem State.onPort_free : (s.onPort p f).free = s.free := rfl
@[simp] theorem State.onPort_tables : (s.onPort p f).tables = s.tables := rfl
@[simp] theorem State.onPort_loop : (s.onPort p f).loop = s.loop := rfl
@[simp] theorem State.onPort_uplink : (s.onPort p f).uplink = s.uplink := rfl
@[simp] theorem State.onPort_router : (s.onPort p f).router = s.router := rfl
@[simp] theorem State.onPort_drawers : (s.onPort p f).drawers = s.drawers := rfl
@[simp] theorem State.onPort_composer : (s.onPort p f).composer = s.composer := rfl
@[simp] theorem State.onPort_passbook : (s.onPort p f).passbook = s.passbook := rfl
@[simp] theorem State.onPort_journal : (s.onPort p f).journal = s.journal := rfl
@[simp] theorem State.onPort_day : (s.onPort p f).day = s.day := rfl
@[simp] theorem State.onPort_mgmt : (s.onPort p f).mgmt = s.mgmt := rfl
end onPort

section onDrawer
variable (d : Nat) (f : Drawer → Drawer) (s : State)
@[simp] theorem State.onDrawer_pending : (s.onDrawer d f).pending = s.pending := rfl
@[simp] theorem State.onDrawer_phase : (s.onDrawer d f).phase = s.phase := rfl
@[simp] theorem State.onDrawer_carrier : (s.onDrawer d f).carrier = s.carrier := rfl
@[simp] theorem State.onDrawer_free : (s.onDrawer d f).free = s.free := rfl
@[simp] theorem State.onDrawer_tables : (s.onDrawer d f).tables = s.tables := rfl
@[simp] theorem State.onDrawer_loop : (s.onDrawer d f).loop = s.loop := rfl
@[simp] theorem State.onDrawer_uplink : (s.onDrawer d f).uplink = s.uplink := rfl
@[simp] theorem State.onDrawer_router : (s.onDrawer d f).router = s.router := rfl
@[simp] theorem State.onDrawer_composer : (s.onDrawer d f).composer = s.composer := rfl
@[simp] theorem State.onDrawer_ports : (s.onDrawer d f).ports = s.ports := rfl
@[simp] theorem State.onDrawer_passbook : (s.onDrawer d f).passbook = s.passbook := rfl
@[simp] theorem State.onDrawer_journal : (s.onDrawer d f).journal = s.journal := rfl
@[simp] theorem State.onDrawer_day : (s.onDrawer d f).day = s.day := rfl
@[simp] theorem State.onDrawer_mgmt : (s.onDrawer d f).mgmt = s.mgmt := rfl
end onDrawer

section setJob
variable (p : Nat) (j : Option Job) (s : State)
@[simp] theorem State.setJob_pending : (s.setJob p j).pending = s.pending := rfl
@[simp] theorem State.setJob_phase : (s.setJob p j).phase = s.phase := rfl
@[simp] theorem State.setJob_carrier : (s.setJob p j).carrier = s.carrier := rfl
@[simp] theorem State.setJob_free : (s.setJob p j).free = s.free := rfl
@[simp] theorem State.setJob_tables : (s.setJob p j).tables = s.tables := rfl
@[simp] theorem State.setJob_loop : (s.setJob p j).loop = s.loop := rfl
@[simp] theorem State.setJob_uplink : (s.setJob p j).uplink = s.uplink := rfl
@[simp] theorem State.setJob_router : (s.setJob p j).router = s.router := rfl
@[simp] theorem State.setJob_drawers : (s.setJob p j).drawers = s.drawers := rfl
@[simp] theorem State.setJob_composer : (s.setJob p j).composer = s.composer := rfl
@[simp] theorem State.setJob_ports : (s.setJob p j).ports = s.ports := rfl
@[simp] theorem State.setJob_journal : (s.setJob p j).journal = s.journal := rfl
@[simp] theorem State.setJob_day : (s.setJob p j).day = s.day := rfl
@[simp] theorem State.setJob_mgmt : (s.setJob p j).mgmt = s.mgmt := rfl
end setJob

/-! ### Numbered entries -/

theorem look_eq {α : Type} [Inhabited α] {n : Nat} (v : Vector α n) (i : Nat) (h : i < n) : look v i = v[i] := by
  simp [look, Vector.getD, h]

theorem look_beyond {α : Type} [Inhabited α] {n : Nat} (v : Vector α n) (i : Nat) (h : n ≤ i) : look v i = default := by
  simp [look, Vector.getD, Nat.not_lt.mpr h]

/-- Reading the entry just replaced. -/
theorem look_put_self {α : Type} [Inhabited α] {n : Nat} (v : Vector α n) (i : Nat) (x : α) (h : i < n) :
    look (put v i x) i = x := by
  simp [look_eq, h, put]

/-- Every other entry reads as before. -/
theorem look_put_other {α : Type} [Inhabited α] {n : Nat} (v : Vector α n) (i j : Nat) (x : α) (h : i ≠ j) :
    look (put v i x) j = look v j := by
  by_cases hj : j < n
  · simp [look_eq, hj, put, h]
  · rw [look_beyond _ _ (by omega), look_beyond _ _ (by omega)]

/-- An index outside the table changes nothing. -/
theorem put_beyond {α : Type} {n : Nat} (v : Vector α n) (i : Nat) (x : α) (h : n ≤ i) : put v i x = v := by
  ext j hj
  have : i ≠ j := by omega
  simp [put, this]

/-- Station a's record after it was changed. -/
theorem State.station_onStation_self (a : Nat) (f : StationRec → StationRec) (s : State) (h : isStation a) :
    (s.onStation a f).station a = f (s.station a) := by
  have h24 : a - 1 < 24 := by simp [isStation] at h; omega
  simp [State.station, State.onStation, State.onLoop, look_put_self, h24]

/-- Every other station's record after one was changed. -/
theorem State.station_onStation_other (a b : Nat) (f : StationRec → StationRec) (s : State) (h : a - 1 ≠ b - 1) :
    (s.onStation a f).station b = s.station b := by
  simp [State.station, State.onStation, State.onLoop, look_put_other _ _ _ _ h]

/-- Port p's record after it was changed. -/
theorem State.port_onPort_self (p : Nat) (f : Port → Port) (s : State) (h : isPort p) :
    (s.onPort p f).port p = f (s.port p) := by
  have h8 : p - 1 < 8 := by simp [isPort] at h; omega
  simp [State.port, State.onPort, State.onPorts, look_put_self, h8]

/-- Every other port's record after one was changed. -/
theorem State.port_onPort_other (p q : Nat) (f : Port → Port) (s : State) (h : p - 1 ≠ q - 1) :
    (s.onPort p f).port q = s.port q := by
  simp [State.port, State.onPort, State.onPorts, look_put_other _ _ _ _ h]

/-- Drawer d's record after it was changed. -/
theorem State.drawer_onDrawer_self (d : Nat) (f : Drawer → Drawer) (s : State) (h : isDrawer d) :
    (s.onDrawer d f).drawer d = f (s.drawer d) := by
  have h17 : d < 17 := by simp [isDrawer] at h; omega
  simp [State.drawer, State.onDrawer, State.onDrawers, look_put_self, h17]

/-- Every other drawer's record after one was changed. -/
theorem State.drawer_onDrawer_other (d e : Nat) (f : Drawer → Drawer) (s : State) (h : d ≠ e) :
    (s.onDrawer d f).drawer e = s.drawer e := by
  simp [State.drawer, State.onDrawer, State.onDrawers, look_put_other _ _ _ _ h]

end Sys2Proof.Machine
end

