-- ==== Sys2Proof/Laws/Memory.lean ====
section
/-! SUPPORT. The laws of the settings memory: every operation keeps the canonical form, a write is read back, and every other address
reads as before. -/

namespace Sys2Proof.Machine

/-- A canonical memory's tail is canonical. -/
theorem Memory.wf_tail {c : Host.Cell} {m : List Host.Cell} (h : Memory.wf (c :: m)) : Memory.wf m := by
  cases m with
  | nil => rfl
  | cons d m => obtain ⟨a, b⟩ := c; obtain ⟨a', b'⟩ := d; simp [Memory.wf] at h ⊢; exact h.2

/-- A cell below every listed address, within the memory and not blank, may stand in front. -/
theorem Memory.wf_cons {a : Nat} {b : Byte} {m : List Host.Cell} (hm : Memory.wf m) (ha : a < Config.settingsBytes)
    (hb : b ≠ Memory.blank) (hlt : ∀ c ∈ m.head?, a < c.1) : Memory.wf ((a, b) :: m) := by
  cases m with
  | nil => simp [Memory.wf, ha, hb]
  | cons d m => obtain ⟨a', b'⟩ := d; simp [Memory.wf, hb] at hm ⊢; exact ⟨by simpa using hlt, hm⟩

/-- The first cell of a canonical memory is not blank and lies below the next. -/
theorem Memory.wf_head {a : Nat} {b : Byte} {m : List Host.Cell} (h : Memory.wf ((a, b) :: m)) :
    b ≠ Memory.blank ∧ ∀ c ∈ m.head?, a < c.1 := by
  cases m with
  | nil => simp [Memory.wf] at h; exact ⟨h.2, by simp⟩
  | cons d m => obtain ⟨a', b'⟩ := d; simp [Memory.wf] at h; exact ⟨h.1.2, by simpa using h.1.1⟩

/-- In a canonical memory an address below every listed one reads as blank. -/
theorem Memory.read_below {m : List Host.Cell} {a : Nat} (hm : Memory.wf m) (h : ∀ c ∈ m.head?, a < c.1) :
    Memory.read m a = Memory.blank := by
  induction m with
  | nil => rfl
  | cons d m ih =>
    obtain ⟨a', b'⟩ := d
    have hlt : a < a' := by simpa using h
    have hd := (Memory.wf_head hm).2
    rw [Memory.read, if_neg (by omega)]
    exact ih (Memory.wf_tail hm) fun c hc => Nat.lt_trans hlt (hd c hc)

/-- Every address of a canonical memory's list is within the memory. -/
theorem Memory.wf_addr {a : Nat} {b : Byte} {m : List Host.Cell} (h : Memory.wf ((a, b) :: m)) : a < Config.settingsBytes := by
  induction m generalizing a b with
  | nil => simp [Memory.wf] at h; exact h.1
  | cons d m ih =>
    obtain ⟨a', b'⟩ := d
    have := ih (Memory.wf_tail h)
    have := (Memory.wf_head h).2 (a', b') (by simp)
    simp at this; omega

/-- The first address of a memory with one byte written. -/
theorem Memory.insert_head {m : List Host.Cell} {a c : Nat} {b : Byte} (hm : ∀ x ∈ m.head?, c < x.1)
    (hw : Memory.wf m) (h : c < a) : ∀ x ∈ (Memory.insert m a b).head?, c < x.1 := by
  cases m with
  | nil => by_cases hb : b = Memory.blank <;> simp [Memory.insert, hb, h]
  | cons d m =>
    obtain ⟨a', b'⟩ := d
    have hc : c < a' := by simpa using hm
    unfold Memory.insert
    split
    · split <;> simp [h, hc]
    · split
      · split
        · intro x hx; exact Nat.lt_trans hc ((Memory.wf_head hw).2 x hx)
        · simp [h]
      · simp [hc]

/-- A write of one byte within the memory keeps the canonical form. -/
theorem Memory.wf_insert {m : List Host.Cell} {a : Nat} {b : Byte} (hm : Memory.wf m) (ha : a < Config.settingsBytes) :
    Memory.wf (Memory.insert m a b) := by
  induction m with
  | nil => by_cases hb : b = Memory.blank <;> simp [Memory.insert, hb, Memory.wf, ha]
  | cons d m ih =>
    obtain ⟨a', b'⟩ := d
    have ht := Memory.wf_tail hm
    unfold Memory.insert
    split
    · split
      · exact hm
      · exact Memory.wf_cons hm ha ‹_› (by simpa using ‹a < a'›)
    · split
      · rename_i heq; subst heq
        split
        · exact ht
        · exact Memory.wf_cons ht ha ‹_› (Memory.wf_head hm).2
      · have hlt : a' < a := by omega
        exact Memory.wf_cons (ih ht) (Memory.wf_addr hm) (Memory.wf_head hm).1
          (Memory.insert_head (Memory.wf_head hm).2 ht hlt)

/-- A write keeps the canonical form. -/
theorem Memory.wf_write {m : List Host.Cell} {a : Nat} {b : Byte} (hm : Memory.wf m) : Memory.wf (Memory.write m a b) := by
  unfold Memory.write; split
  · exact Memory.wf_insert hm ‹_›
  · exact hm

/-- A write of bytes keeps the canonical form. -/
theorem Memory.wf_writeBytes {bs : List Byte} {m : List Host.Cell} {a : Nat} (hm : Memory.wf m) :
    Memory.wf (Memory.writeBytes m a bs) := by
  induction bs generalizing m a with
  | nil => exact hm
  | cons b bs ih => exact ih (Memory.wf_write hm)

/-- Reading after a write of one byte. -/
theorem Memory.read_insert {m : List Host.Cell} {a c : Nat} {b : Byte} (hm : Memory.wf m) :
    Memory.read (Memory.insert m a b) c = if c = a then b else Memory.read m c := by
  induction m with
  | nil =>
    by_cases hb : b = Memory.blank <;> by_cases hc : c = a <;> simp [Memory.insert, hb, Memory.read, hc]
  | cons d m ih =>
    obtain ⟨a', b'⟩ := d
    have ht := Memory.wf_tail hm
    unfold Memory.insert
    split
    · rename_i hlt
      split
      · rename_i hb
        by_cases hc : c = a
        · subst hc; rw [if_pos rfl, hb]; exact Memory.read_below hm (by simpa using hlt)
        · rw [if_neg hc]
      · simp only [Memory.read]
    · split
      · rename_i heq; subst heq
        split
        · rename_i hb
          by_cases hc : c = a
          · subst hc; rw [if_pos rfl, hb]; exact Memory.read_below ht (Memory.wf_head hm).2
          · simp [Memory.read, hc]
        · by_cases hc : c = a <;> simp [Memory.read, hc]
      · rename_i hne
        simp only [Memory.read, ih ht]
        by_cases hc : c = a'
        · have : c ≠ a := by omega
          rw [if_pos hc, if_neg this, if_pos hc]
        · simp [hc]

/-- Reading after a write: the byte written within the memory, every other address as before. -/
theorem Memory.read_write {m : List Host.Cell} {a c : Nat} {b : Byte} (hm : Memory.wf m) :
    Memory.read (Memory.write m a b) c = if c = a ∧ a < Config.settingsBytes then b else Memory.read m c := by
  unfold Memory.write; split
  · rename_i h; simp [Memory.read_insert hm, h]
  · rename_i h; simp [h]

/-- Reading after a write of bytes. -/
theorem Memory.read_writeBytes {bs : List Byte} {m : List Host.Cell} {a c : Nat} (hm : Memory.wf m) :
    Memory.read (Memory.writeBytes m a bs) c =
      if a ≤ c ∧ c < a + bs.length ∧ c < Config.settingsBytes then bs.getD (c - a) 0 else Memory.read m c := by
  induction bs generalizing m a with
  | nil => simp [Memory.writeBytes]; intro h1 h2; omega
  | cons b bs ih =>
    rw [Memory.writeBytes, ih (Memory.wf_write hm), Memory.read_write hm]
    by_cases h1 : a + 1 ≤ c
    · have e : c - a = (c - (a + 1)) + 1 := by omega
      have n : ¬ (c = a ∧ a < Config.settingsBytes) := by omega
      rw [if_neg n, e, List.getD_cons_succ]
      by_cases h2 : c < a + 1 + bs.length ∧ c < Config.settingsBytes
      · rw [if_pos ⟨h1, h2.1, h2.2⟩, if_pos ⟨by omega, by simp; omega, h2.2⟩]
      · rw [if_neg (by omega), if_neg (by simp; omega)]
    · rw [if_neg (by omega)]
      by_cases h2 : c = a ∧ a < Config.settingsBytes
      · obtain ⟨rfl, h3⟩ := h2
        rw [if_pos ⟨rfl, h3⟩, if_pos ⟨by omega, by simp, h3⟩]; simp
      · rw [if_neg h2, if_neg (by simp; omega)]

/-- A read of n bytes has n bytes. -/
theorem Memory.readBytes_length (m : List Host.Cell) (a n : Nat) : (Memory.readBytes m a n).length = n := by
  induction n generalizing a with
  | zero => rfl
  | succ n ih => simp [Memory.readBytes, ih]

/-- The state after reset has a canonical memory. -/
theorem reset_memory_wf : Memory.wf State.reset.mgmt.memory := rfl

end Sys2Proof.Machine
end

