-- ==== Sys2Proof/Laws/Commands.lean ====
section
/-! SUPPORT. What the classifier's hand-over (R25) and the judging of a management command (R193) can do, said once. -/

namespace Sys2Proof.Machine

/-- The classifier hands a GOOD block at the head of the receive queue over, and takes no other; R24: the lost count is added last. -/
theorem State.classified_head {s : State} {cls : BlockClass} {b : RxBlock} (act : RxBlock → State → State)
    (h : HeadBlock s cls b) :
    s.classified cls act
      = (act b { s with uplink := s.uplink.taken }).onUplink (Uplink.reportLost s.uplink.headLost) := by
  obtain ⟨hl, hh, hg, hc⟩ := h
  cases hr : s.uplink.rx with
  | nil => simp [hr] at hh
  | cons x rest =>
    have hx : x = b := by simpa [hr] using hh
    subst hx
    simp [State.classified, hl, hr, hg, hc, Uplink.headLost, State.onUplink]

/-- With no such block at the head the classifier does nothing. -/
theorem State.classified_none {s : State} {cls : BlockClass} (act : RxBlock → State → State)
    (h : ∀ b, ¬ HeadBlock s cls b) : s.classified cls act = s := by
  unfold State.classified
  split
  · rename_i b rest hl hr
    split
    · rename_i hg; exact absurd ⟨hl, by simp [hr], hg.1, hg.2⟩ (h b)
    · rfl
  · rfl

/-- A command whose body belongs to the row is judged. -/
theorem State.takeCommand_judged {s : State} {tag : Nat} {body : List Byte} {row : List Byte → Bool}
    (h : CommandAtHead s tag body) (hrow : row body = true) :
    s.takeCommand row
      = (State.judgeCommand tag body { s with uplink := s.uplink.taken }).onUplink (Uplink.reportLost s.uplink.headLost) := by
  obtain ⟨⟨b, hb, ht, hbody⟩, ho, _⟩ := h
  have hh := hb.2.1
  cases hr : s.uplink.rx with
  | nil => simp [hr] at hh
  | cons x rest =>
    have hx : x = b := by simpa [hr] using hh
    subst hx
    unfold State.takeCommand
    simp only [hr, hbody, hrow, ho, decide_true, Bool.and_self, if_true]
    rw [State.classified_head _ hb, ht, hbody]

/-- A command whose tests pass and whose effect is made at once: its state and its return. -/
theorem State.takeCommand_perform {s : State} {tag : Nat} {code : Byte} {fields : List Byte} {row : List Byte → Bool}
    {c : Cmd} {f : State → State × List Byte}
    (h : CommandAtHead s tag (code :: 0 :: fields)) (hrow : row (code :: 0 :: fields) = true)
    (hc : nameIn cmdNames code.toNat = some c)
    (hp : State.planOf { s with uplink := s.uplink.taken } c tag true fields = .perform f) :
    s.takeCommand row =
      ((f { s with uplink := s.uplink.taken, mgmt := s.mgmt.take c.code tag }).1.answerDone c.code tag
        (f { s with uplink := s.uplink.taken, mgmt := s.mgmt.take c.code tag }).2).onUplink
        (Uplink.reportLost s.uplink.headLost) := by
  rw [State.takeCommand_judged h hrow]
  simp only [State.judgeCommand, hc, h.2.2, Option.isSome_none, decide_true, hp, State.carryOut, State.onMgmt]
  simp

/-- A command whose tests pass and which stays in flight. -/
theorem State.takeCommand_start {s : State} {tag : Nat} {code : Byte} {fields : List Byte} {row : List Byte → Bool}
    {c : Cmd} {f : State → State}
    (h : CommandAtHead s tag (code :: 0 :: fields)) (hrow : row (code :: 0 :: fields) = true)
    (hc : nameIn cmdNames code.toNat = some c)
    (hp : State.planOf { s with uplink := s.uplink.taken } c tag true fields = .start f) :
    s.takeCommand row
      = (f { s with uplink := s.uplink.taken, mgmt := s.mgmt.take c.code tag }).onUplink
        (Uplink.reportLost s.uplink.headLost) := by
  rw [State.takeCommand_judged h hrow]
  simp only [State.judgeCommand, hc, h.2.2, Option.isSome_none, decide_true, hp, State.carryOut, State.onMgmt]
  simp

end Sys2Proof.Machine
end

