-- ==== Sys2Proof/Laws/Screen.lean ====
section
/-! SUPPORT. What the operations of the Screen Composer leave alone: forming status lines changes nothing but row 1 and its dirty
marks, and every screen operation changes nothing but the composer. -/

namespace Sys2Proof.Machine

theorem StatusLinesOnly.refl (c : Composer) : StatusLinesOnly c c :=
  ⟨rfl, rfl, rfl, rfl, fun _ _ => ⟨rfl, fun _ _ _ => ⟨rfl, rfl⟩⟩⟩

theorem StatusLinesOnly.trans {c d e : Composer} (h : StatusLinesOnly c d) (k : StatusLinesOnly d e) : StatusLinesOnly c e := by
  obtain ⟨h1, h2, h3, h4, h5⟩ := h
  obtain ⟨k1, k2, k3, k4, k5⟩ := k
  refine ⟨k1.trans h1, k2.trans h2, k3.trans h3, k4.trans h4, fun i hi => ⟨?_, fun r hr h0 => ?_⟩⟩
  · rw [(k5 i hi).1, (h5 i hi).1]
  · exact ⟨((k5 i hi).2 r hr h0).1.trans ((h5 i hi).2 r hr h0).1, ((k5 i hi).2 r hr h0).2.trans ((h5 i hi).2 r hr h0).2⟩

/-- A row written: nothing, or the row replaced and marked dirty over the columns that changed. -/
theorem StationScreen.writeRow_cases (r : Nat) (new : Row) (sc : StationScreen) :
    sc.writeRow r new = sc ∨ ∃ a b, sc.writeRow r new = { sc.mark r a b with rows := put sc.rows (r - 1) new } := by
  simp only [StationScreen.writeRow]
  split
  · exact .inr ⟨_, _, rfl⟩
  · exact .inl rfl

/-- A row written changes that row and its dirty mark alone. -/
theorem StationScreen.writeRow_only (r : Nat) (new : Row) (sc : StationScreen) :
    sc.writeRow r new = { sc with rows := (sc.writeRow r new).rows, dirty := (sc.writeRow r new).dirty }
    ∧ ∀ (k : Nat) (hk : k < 24), k ≠ r - 1 →
        (sc.writeRow r new).rows[k] = sc.rows[k] ∧ (sc.writeRow r new).dirty[k] = sc.dirty[k] := by
  rcases sc.writeRow_cases r new with h | ⟨a, b, h⟩
  · rw [h]; exact ⟨rfl, fun _ _ _ => ⟨rfl, rfl⟩⟩
  · rw [h]
    refine ⟨rfl, fun k hk hne => ?_⟩
    have : r - 1 ≠ k := Ne.symm hne
    simp [StationScreen.mark, put, this]

/-- R106: forming a status line. -/
theorem State.refreshStatus_only (a : Nat) (s : State) :
    StatusLinesOnly s.composer (s.refreshStatus a).composer := by
  refine ⟨rfl, rfl, rfl, rfl, fun i hi => ?_⟩
  by_cases h : a - 1 = i
  · have e : (s.refreshStatus a).composer.screens[i] = (s.screen a).writeRow 1 (s.statusRow a) := by
      simp [State.refreshStatus, State.onScreen, State.onComposer, put, h]
    have e' : s.screen a = s.composer.screens[i] := by simp [State.screen, h, Vector.getD, hi]
    rw [e, e']
    have w := StationScreen.writeRow_only 1 (s.statusRow a) s.composer.screens[i]
    exact ⟨w.1, fun r hr h0 => w.2 r hr (by simpa using h0)⟩
  · have e : (s.refreshStatus a).composer.screens[i] = s.composer.screens[i] := by
      simp [State.refreshStatus, State.onScreen, State.onComposer, put, h]
    rw [e]
    exact ⟨rfl, fun _ _ _ => ⟨rfl, rfl⟩⟩

/-- R106: forming a status line changes the composer alone. -/
theorem State.refreshStatus_frame (a : Nat) (s : State) :
    s.refreshStatus a = { s with composer := (s.refreshStatus a).composer } := rfl

/-- An operation that changes the composer alone. -/
theorem composer_frame {s t : State} (h : ∃ c, t = { s with composer := c }) : t = { s with composer := t.composer } := by
  obtain ⟨c, rfl⟩ := h; rfl

/-- Operations that change the composer alone, one after another. -/
theorem composer_foldl {α : Type} (f : State → α → State) (h : ∀ s a, ∃ c, f s a = { s with composer := c }) (l : List α)
    (s : State) : ∃ c, l.foldl f s = { s with composer := c } := by
  induction l generalizing s with
  | nil => exact ⟨s.composer, rfl⟩
  | cons a l ih =>
    obtain ⟨c, hc⟩ := h s a
    obtain ⟨d, hd⟩ := ih (f s a)
    exact ⟨d, by rw [List.foldl_cons, hd, hc]⟩

theorem State.refreshStatuses_frame (l : List Nat) (s : State) :
    s.refreshStatuses l = { s with composer := (s.refreshStatuses l).composer } :=
  composer_frame (composer_foldl _ (fun _ _ => ⟨_, rfl⟩) l s)

theorem State.refreshStatuses_only (l : List Nat) (s : State) :
    StatusLinesOnly s.composer (s.refreshStatuses l).composer := by
  induction l generalizing s with
  | nil => exact StatusLinesOnly.refl _
  | cons a l ih => exact (s.refreshStatus_only a).trans (ih (s.refreshStatus a))

/-- R106: every status line formed again. -/
theorem State.refreshAllStatus_frame (s : State) :
    s.refreshAllStatus = { s with composer := s.refreshAllStatus.composer } := s.refreshStatuses_frame _

theorem State.refreshAllStatus_only (s : State) : StatusLinesOnly s.composer s.refreshAllStatus.composer :=
  s.refreshStatuses_only _

/-- R107: alerts given change the composer alone. -/
theorem State.giveAlerts_frame (l : List Nat) (al : Alert) (s : State) :
    s.giveAlerts l al = { s with composer := (s.giveAlerts l al).composer } :=
  composer_frame (composer_foldl _ (fun _ _ => ⟨_, rfl⟩) l s)

/-- R103: a completion composed changes the composer alone. -/
theorem State.composeCompletion_frame (a : Nat) (format : Option (Nat × List (Nat × Text))) (alert : Alert) (s : State) :
    s.composeCompletion a format alert = { s with composer := (s.composeCompletion a format alert).composer } := by
  apply composer_frame
  simp only [State.composeCompletion]
  split
  · split <;> exact ⟨_, rfl⟩
  · exact ⟨_, rfl⟩

/-- R168: a change of day state changes the day state and the status lines alone. -/
theorem State.setDay_frame (d : DayState) (s : State) :
    s.setDay d = { s with day := { s.day with state := d }, composer := (s.setDay d).composer } := by
  obtain ⟨c, hc⟩ : ∃ c, s.setDay d = { s with day := { s.day with state := d }, composer := c } :=
    ⟨_, State.refreshAllStatus_frame (s.onDay fun x => { x with state := d })⟩
  rw [hc]

theorem State.setDay_only (d : DayState) (s : State) : StatusLinesOnly s.composer (s.setDay d).composer := by
  unfold State.setDay
  exact State.refreshAllStatus_only (s.onDay fun x => { x with state := d })

end Sys2Proof.Machine
end

