-- ==== Sys2Proof/Laws/Codec.lean ====
section
/-! SUPPORT. What is written is read back: binary fields, flags, texts, optional fields and lists (R206). -/

namespace Sys2Proof.Machine

@[simp] theorem be_length (w n : Nat) : (be w n).length = w := by
  induction w with
  | zero => rfl
  | succ w ih => simp [be, ih]

@[simp] theorem by1_length (n : Nat) : (by1 n).length = 1 := rfl

theorem ofBe_foldl (bs : List Byte) (n : Nat) :
    bs.foldl (fun n b => n * 256 + b.toNat) n = n * 256 ^ bs.length + ofBe bs := by
  induction bs generalizing n with
  | nil => simp [ofBe]
  | cons b bs ih =>
    have h0 := ih (n * 256 + b.toNat)
    have h1 := ih (0 * 256 + b.toNat)
    simp only [ofBe, List.foldl_cons, List.length_cons] at *
    rw [h0, h1]
    simp [Nat.add_mul, Nat.pow_succ, Nat.mul_assoc, Nat.mul_comm 256, Nat.add_assoc]

theorem ofBe_cons (b : Byte) (bs : List Byte) : ofBe (b :: bs) = b.toNat * 256 ^ bs.length + ofBe bs := by
  have := ofBe_foldl bs (0 * 256 + b.toNat)
  simpa [ofBe] using this

/-- A number within its field is what the field's bytes read as. -/
theorem ofBe_be_mod (w n : Nat) : ofBe (be w n) = n % 256 ^ w := by
  induction w with
  | zero => simp [be, ofBe, Nat.mod_one]
  | succ w ih =>
    have e : n % (256 ^ w * 256) = n % 256 ^ w + 256 ^ w * (n / 256 ^ w % 256) := Nat.mod_mul ..
    rw [be, ofBe_cons, ih, be_length, BitVec.toNat_ofNat, show 256 ^ (w + 1) = 256 ^ w * 256 from rfl, e,
      Nat.mul_comm (256 ^ w), Nat.add_comm]

theorem ofBe_be {w n : Nat} (h : n < 256 ^ w) : ofBe (be w n) = n := by rw [ofBe_be_mod, Nat.mod_eq_of_lt h]

theorem Reader.raw_append {n : Nat} {bs rest : List Byte} (h : bs.length = n) :
    Reader.raw n (bs ++ rest) = .ok bs true rest := by
  subst h; simp [Reader.raw]

theorem Reader.nat_be {w n : Nat} (rest : List Byte) (h : n < 256 ^ w) : Reader.nat w (be w n ++ rest) = .ok n true rest := by
  simp [Reader.nat, Reader.map, Reader.raw_append (be_length w n), ofBe_be h]

theorem Reader.nat_by1 {n : Nat} (rest : List Byte) (h : n < 256) : Reader.nat 1 (by1 n ++ rest) = .ok n true rest :=
  Reader.nat_be rest (by simpa using h)

theorem Reader.natIn_be {w n lo hi : Nat} (rest : List Byte) (h : n < 256 ^ w) :
    Reader.natIn w lo hi (be w n ++ rest) = .ok n (lo ≤ n && n ≤ hi) rest := by
  simp [Reader.natIn, Reader.map, Reader.nat_be rest h]

theorem Reader.natIn_by1 {n lo hi : Nat} (rest : List Byte) (h : n < 256) :
    Reader.natIn 1 lo hi (by1 n ++ rest) = .ok n (lo ≤ n && n ≤ hi) rest :=
  Reader.natIn_be rest (by simpa using h)

theorem Reader.flag_flag (b : Bool) (rest : List Byte) : Reader.flag (Machine.flag b ++ rest) = .ok b true rest := by
  cases b <;> simp [Reader.flag, Machine.flag, Reader.map, Reader.nat_by1]

theorem Reader.byte_cons (b : Byte) (rest : List Byte) : Reader.byte (b :: rest) = .ok b true rest := by
  simp [Reader.byte, Reader.map, Reader.raw]

/-- A name whose code has a name again is read back. -/
theorem Reader.named_be {α : Type} {w n : Nat} {ofCode : Nat → Option α} {other a : α} (rest : List Byte) (h : n < 256 ^ w)
    (hc : ofCode n = some a) : Reader.named w ofCode other (be w n ++ rest) = .ok a true rest := by
  simp [Reader.named, Reader.map, Reader.nat_be rest h, hc]

theorem Reader.named_by1 {α : Type} {n : Nat} {ofCode : Nat → Option α} {other a : α} (rest : List Byte) (h : n < 256)
    (hc : ofCode n = some a) : Reader.named 1 ofCode other (by1 n ++ rest) = .ok a true rest :=
  Reader.named_be rest (by simpa using h) hc

/-- One reader after another. -/
theorem Reader.andThen_ok {α β : Type} {p : Reader α} {f : α → Reader β} {bs rest : List Byte} {a : α} {g : Bool}
    (h : p bs = .ok a g rest) :
    Reader.andThen p f bs = match f a rest with
      | .ok b g' rest' => .ok b (g && g') rest'
      | .length => .length
      | .bad => .bad := by
  cases hf : f a rest <;> simp [Reader.andThen, h, hf]

theorem Reader.map_ok {α β : Type} {p : Reader α} {f : α → β} {good : α → Bool} {bs rest : List Byte} {a : α} {g : Bool}
    (h : p bs = .ok a g rest) : Reader.map p f good bs = .ok (f a) (g && good a) rest := by
  simp [Reader.map, h]

theorem Reader.text_encText {t : Text} {lo hi : Nat} (rest : List Byte) (h : t.length < 256) (h1 : lo ≤ t.length)
    (h2 : t.length ≤ hi) : Reader.text lo hi (encText t ++ rest) = .ok t true rest := by
  simp [Reader.text, encText, Reader.andThen_ok (Reader.nat_by1 (t ++ rest) h),
    Reader.map_ok (Reader.raw_append (rest := rest) (rfl : t.length = t.length)), h1, h2]

theorem Reader.opt_encOpt {α : Type} {p : Reader α} {f : α → List Byte} {x : Option α} (rest : List Byte)
    (h : ∀ a, x = some a → p (f a ++ rest) = .ok a true rest) : Reader.opt p (encOpt f x ++ rest) = .ok x true rest := by
  cases x with
  | none => simp [Reader.opt, encOpt]
  | some a => simp [Reader.opt, encOpt, Reader.map_ok (h a rfl)]

/-- Items one after another are read back. -/
theorem Reader.times_encAll {α : Type} {p : Reader α} {f : α → List Byte} {l : List α} (rest : List Byte)
    (h : ∀ a ∈ l, ∀ r, p (f a ++ r) = .ok a true r) : Reader.times p l.length (encAll f l ++ rest) = .ok l true rest := by
  induction l with
  | nil => simp [Reader.times, Reader.pure, encAll]
  | cons a l ih =>
    have e : encAll f (a :: l) ++ rest = f a ++ (encAll f l ++ rest) := by simp [encAll]
    have ih' := ih fun b hb => h b (List.mem_cons_of_mem _ hb)
    rw [e, List.length_cons, Reader.times, Reader.andThen_ok (h a (List.mem_cons_self ..) _), Reader.map_ok ih']
    rfl

/-- A list is read back. -/
theorem Reader.list_encList {α : Type} {p : Reader α} {f : α → List Byte} {l : List α} {lo hi : Nat} (rest : List Byte)
    (h : ∀ a ∈ l, ∀ r, p (f a ++ r) = .ok a true r) (h0 : l.length < 256) (h1 : lo ≤ l.length) (h2 : l.length ≤ hi) :
    Reader.list lo hi p (encList f l ++ rest) = .ok l true rest := by
  rw [encList, List.append_assoc, Reader.list, Reader.andThen_ok (Reader.natIn_by1 _ h0), Reader.times_encAll rest h]
  simp [h1, h2]

theorem Reader.whole_ok {α : Type} {p : Reader α} {bs : List Byte} {a : α} {g : Bool} (h : p bs = .ok a g []) :
    p.whole bs = .ok a g [] := by
  simp [Reader.whole, h]

/-- A name's code names it again. -/
theorem nameIn_codeIn {α : Type} [DecidableEq α] {names : List α} {a : α} (h : a ∈ names) :
    nameIn names (codeIn names a) = some a := by
  cases hi : names.findIdx? fun x => decide (x = a) with
  | none => simp at hi; exact absurd rfl (hi a h)
  | some i =>
    have hi' := hi
    rw [List.findIdx?_eq_some_iff_getElem] at hi'
    obtain ⟨hl, he, _⟩ := hi'
    have he' : names[i] = a := by simpa using he
    simp [nameIn, codeIn, hi, hl, he']

/-- R1: a character put on the loop line is taken in as it was sent. -/
theorem readLoopBits_loopBits (m : Bool) (b : Byte) : readLoopBits (loopBits m b) = { marked := m, data := b, stopOk := true } := by
  revert m b; decide +kernel

end Sys2Proof.Machine
end

