-- ==== Sys2Proof/Laws/Tables.lean ====
section
/-! SUPPORT. The content of an entry of each of tables 1 to 10 is read back as the entry it was written from (R195, R200). -/

namespace Sys2Proof.Machine

theorem LoopRate.ofBps_bps (r : LoopRate) : LoopRate.ofBps r.bps = some r := by cases r <;> rfl
theorem LineRate.ofBps_bps (r : LineRate) : LineRate.ofBps r.bps = some r := by cases r <;> rfl
theorem LoopRate.bps_lt (r : LoopRate) : r.bps < 256 ^ 3 := by cases r <;> decide
theorem LineRate.bps_lt (r : LineRate) : r.bps < 256 ^ 3 := by cases r <;> decide

/-- The codes of the dates, roles, classes, kinds of denomination and kinds of field name them again. -/
theorem nameIn_dateOrder (o : DateOrder) : nameIn dateOrderNames (codeIn dateOrderNames o) = some o := by cases o <;> rfl
theorem nameIn_role (r : Role) : nameIn roleNames (codeIn roleNames r) = some r := by cases r <;> rfl
theorem nameIn_class (c : KindClass) : nameIn classNames (codeIn classNames c) = some c := by cases c <;> rfl
theorem nameIn_denomKind (k : DenomKind) : nameIn denomKindNames (codeIn denomKindNames k) = some k := by cases k <;> rfl
theorem nameIn_fieldKind (k : FieldKind) : nameIn fieldKindNames (codeIn fieldKindNames k) = some k := by cases k <;> rfl

theorem codeIn_dateOrder_lt (o : DateOrder) : codeIn dateOrderNames o < 256 := by cases o <;> decide
theorem codeIn_role_lt (r : Role) : codeIn roleNames r < 256 := by cases r <;> decide
theorem codeIn_class_lt (c : KindClass) : codeIn classNames c < 256 := by cases c <;> decide
theorem codeIn_denomKind_lt (k : DenomKind) : codeIn denomKindNames k < 256 := by cases k <;> decide
theorem codeIn_fieldKind_lt (k : FieldKind) : codeIn fieldKindNames k < 256 := by cases k <;> decide

theorem readParams_encParams {p : BranchParams} (rest : List Byte) (h : paramsOk p) (hb : p.branch < 65536) :
    readParams (encParams p ++ rest) = .ok p true rest := by
  simp only [paramsOk, Bool.and_eq_true, decide_eq_true_eq, Bool.or_eq_true] at h
  have hmax : Config.maxTotal = 999999999999999 := rfl
  obtain ⟨⟨⟨⟨⟨⟨h1, h2⟩, h3⟩, h4⟩, h5⟩, _⟩, _⟩ := h
  simp only [readParams, encParams, List.append_assoc, List.cons_append, List.nil_append]
  rw [Reader.andThen_ok (Reader.named_be _ p.loopRate.bps_lt p.loopRate.ofBps_bps)]
  rw [Reader.andThen_ok (Reader.flag_flag _ _)]
  rw [Reader.andThen_ok (Reader.nat_be _ (by omega))]
  rw [Reader.andThen_ok (Reader.named_be _ p.uplinkRate.bps_lt p.uplinkRate.ofBps_bps)]
  rw [Reader.andThen_ok (Reader.nat_by1 _ (by omega))]
  rw [Reader.andThen_ok (Reader.nat_by1 _ (by omega))]
  rw [Reader.andThen_ok (Reader.nat_be _ (by omega))]
  rw [Reader.andThen_ok (Reader.nat_be _ (by omega))]
  rw [Reader.andThen_ok (Reader.flag_flag _ _)]
  rw [Reader.andThen_ok (Reader.byte_cons _ _)]
  rw [Reader.andThen_ok (Reader.byte_cons _ _)]
  rw [Reader.andThen_ok (Reader.named_by1 _ (codeIn_dateOrder_lt _) (nameIn_dateOrder _))]
  rw [Reader.andThen_ok (Reader.byte_cons _ _)]
  rw [Reader.map_ok (Reader.byte_cons _ _)]
  have hg : (if p.grouping.getD 0 = 0 then none else some (p.grouping.getD 0)) = p.grouping := by
    cases hg : p.grouping with
    | none => rfl
    | some g =>
      have hne : g ≠ 0 := by
        rintro rfl
        rw [hg] at h5
        simp [groupingOk] at h5
      simpa using hne
  rw [hg]
  rfl

theorem readStationEntry_enc {e : StationEntry} (rest : List Byte) (h : stationEntryOk e) :
    readStationEntry (encStationEntry e ++ rest) = .ok e true rest := by
  obtain ⟨role, drawer, bank, port⟩ := e
  simp only [stationEntryOk, Bool.and_eq_true, decide_eq_true_eq] at h
  obtain ⟨⟨hd, hb⟩, hp⟩ := h
  have hd' : drawer.getD 0xFF < 256 ∧ (drawer.getD 0xFF = 0xFF ↔ drawer = none) := by
    cases drawer with
    | none => simp
    | some d => simp at hd; simp; omega
  have hp' : port.getD 0 < 256 ∧ (port.getD 0 = 0 ↔ port = none) := by
    cases port with
    | none => simp
    | some p => simp [isPort] at hp; simp; omega
  simp only [readStationEntry, encStationEntry, List.append_assoc]
  rw [Reader.andThen_ok (Reader.named_by1 _ (codeIn_role_lt _) (nameIn_role _))]
  rw [Reader.andThen_ok (Reader.nat_by1 _ hd'.1)]
  rw [Reader.andThen_ok (Reader.nat_by1 _ (by omega))]
  rw [Reader.map_ok (Reader.nat_by1 _ hp'.1)]
  simp only [hd'.2, hp'.2]
  cases drawer <;> cases port <;> simp

theorem readKindEntry_enc {e : KindEntry} (rest : List Byte) (h : kindEntryOk e) :
    readKindEntry (encKindEntry e ++ rest) = .ok e true rest := by
  simp only [kindEntryOk, Bool.and_eq_true, decide_eq_true_eq] at h
  obtain ⟨⟨⟨⟨_, h2⟩, _⟩, _⟩, _⟩ := h
  simp only [readKindEntry, encKindEntry, List.append_assoc]
  rw [Reader.andThen_ok (Reader.named_by1 _ (codeIn_class_lt _) (nameIn_class _))]
  rw [Reader.andThen_ok (Reader.flag_flag _ _)]
  rw [Reader.andThen_ok (Reader.flag_flag _ _)]
  rw [Reader.andThen_ok (Reader.flag_flag _ _)]
  rw [Reader.andThen_ok (Reader.flag_flag _ _)]
  rw [Reader.map_ok (Reader.nat_by1 _ (by omega))]
  rfl

theorem readCurrency_enc {c : Currency} (rest : List Byte) (h : currencyOk c) :
    readCurrency (encCurrency c ++ rest) = .ok c true rest := by
  simp only [currencyOk, Bool.and_eq_true, decide_eq_true_eq] at h
  obtain ⟨⟨⟨⟨h1, _⟩, h2⟩, _⟩, h3⟩ := h
  simp only [readCurrency, encCurrency, List.append_assoc]
  rw [Reader.andThen_ok (Reader.raw_append h1)]
  rw [Reader.andThen_ok (Reader.nat_by1 _ (by omega))]
  rw [Reader.map_ok (Reader.nat_be _ (by omega))]
  rfl

theorem readDenoms_enc {l : List Denomination} (rest : List Byte) (h : denomsOk l) :
    readDenoms (encDenoms l ++ rest) = .ok l true rest := by
  simp only [denomsOk, Bool.and_eq_true, decide_eq_true_eq, List.all_eq_true] at h
  obtain ⟨⟨h1, h2⟩, _⟩ := h
  refine Reader.list_encList rest ?_ (by omega) (by omega) h1
  intro d hd r
  have := h2 d hd
  rw [List.append_assoc, Reader.andThen_ok (Reader.nat_be _ (by omega)),
    Reader.map_ok (Reader.named_by1 _ (codeIn_denomKind_lt _) (nameIn_denomKind _))]
  rfl

theorem readLimits_enc {l : Limits} (rest : List Byte) (h : limitsOk l) :
    readLimits (encLimits l ++ rest) = .ok l true rest := by
  simp only [limitsOk, Bool.and_eq_true, decide_eq_true_eq] at h
  have hmax : Config.maxTotal = 999999999999999 := rfl
  obtain ⟨⟨⟨⟨⟨⟨⟨⟨h1, h2⟩, h3⟩, h4⟩, _⟩, _⟩, _⟩, _⟩, _⟩ := h
  simp only [readLimits, encLimits, List.append_assoc]
  rw [Reader.andThen_ok (Reader.nat_be _ (by omega))]
  rw [Reader.andThen_ok (Reader.nat_be _ (by omega))]
  rw [Reader.andThen_ok (Reader.nat_be _ (by omega))]
  rw [Reader.map_ok (Reader.nat_be _ (by omega))]
  rfl

/-- The source of an entry is read back by its kind. -/
theorem readSource_enc {e : FieldEntry} (rest : List Byte) (h : fieldEntryOk e) (hs : e.sourced) :
    readSource (some e.kind) (encSource e.source ++ rest)
      = .ok e.source true rest := by
  obtain ⟨kind, row, column, length, attr, source, currency⟩ := e
  simp only [fieldEntryOk, Bool.and_eq_true, decide_eq_true_eq] at h
  obtain ⟨⟨_, h⟩, _⟩ := h
  cases source with
  | literal t =>
    simp only [decide_eq_true_eq] at h
    cases kind <;> simp [FieldEntry.sourced] at hs
    simp only [readSource, encSource]
    rw [Reader.map_ok (Reader.text_encText rest (by omega) (by omega) h)]
    rfl
  | field n =>
    simp only [Bool.and_eq_true, decide_eq_true_eq] at h
    cases kind <;> simp [FieldEntry.sourced] at hs <;>
      (simp only [readSource, encSource]; rw [Reader.map_ok (Reader.nat_by1 rest (by omega))]; rfl)

/-- The currency source of an AMOUNT entry is read back. -/
theorem readCurrencySource_enc {c : CurrencySource} (rest : List Byte)
    (h : (match c with | .fixed i => decide (i ≤ 11) | .field n => 1 ≤ n && n ≤ 32) = true) :
    readCurrencySource (encCurrencySource c ++ rest) = .ok c true rest := by
  rcases c with i | n <;> simp only [Bool.and_eq_true, decide_eq_true_eq] at h <;>
    (rw [readCurrencySource, encCurrencySource, List.append_assoc, Reader.andThen_ok (Reader.natIn_by1 _ (by omega)),
      Reader.map_ok (Reader.nat_by1 _ (by omega))]; rfl)

theorem readFieldEntry_enc {e : FieldEntry} (rest : List Byte) (h : fieldEntryOk e) (hs : e.sourced) :
    readFieldEntry (encFieldEntry e ++ rest) = .ok e true rest := by
  have hsrc := fun r => readSource_enc r h hs
  simp only [fieldEntryOk, Bool.and_eq_true, decide_eq_true_eq] at h
  obtain ⟨⟨⟨⟨⟨⟨⟨h1, _⟩, h2⟩, _⟩, h3⟩, h4⟩, h5⟩, h6⟩ := h
  simp only [readFieldEntry, encFieldEntry, List.append_assoc]
  rw [Reader.andThen_ok (Reader.nat_by1 _ (codeIn_fieldKind_lt _))]
  rw [Reader.andThen_ok (Reader.nat_by1 _ (by omega))]
  rw [Reader.andThen_ok (Reader.nat_by1 _ (by omega))]
  rw [Reader.andThen_ok (Reader.nat_by1 _ (by omega))]
  rw [Reader.andThen_ok (Reader.nat_by1 _ (by omega))]
  rw [nameIn_fieldKind]
  rw [Reader.andThen_ok (hsrc _)]
  have hcur : Reader.opt readCurrencySource (encOpt encCurrencySource e.currency ++ rest) = .ok e.currency true rest := by
    apply Reader.opt_encOpt
    intro c hc
    rw [hc] at h6
    simp only [Bool.and_eq_true, decide_eq_true_eq] at h6
    exact readCurrencySource_enc rest h6.2
  rw [Reader.map_ok hcur]
  rfl

theorem readFormat_enc {f : Format} (rest : List Byte) (h : formatOk f) (hs : f.entries.all FieldEntry.sourced)
    (hm : f = Format.make f.origin f.entries) : readFormat (encFormat f ++ rest) = .ok f true rest := by
  simp only [formatOk, Bool.and_eq_true, decide_eq_true_eq, List.all_eq_true] at h
  obtain ⟨⟨⟨⟨_, h1⟩, h2⟩, h3⟩, h4⟩ := h
  simp only [readFormat, encFormat, List.append_assoc]
  rw [Reader.andThen_ok (Reader.nat_by1 _ (by omega))]
  rw [Reader.map_ok (Reader.list_encList rest
    (fun e he r => readFieldEntry_enc r (h4 e he) (List.all_eq_true.mp hs e he)) (by omega) h2 h3)]
  simp [← hm]

theorem readAttr_enc (a : AttrRecord) (rest : List Byte) : readAttr (encAttr a ++ rest) = .ok a true rest := by
  obtain ⟨bright, reverse, blink, underline, hidden⟩ := a
  simp only [readAttr, encAttr, List.append_assoc]
  rw [Reader.andThen_ok (Reader.natIn_by1 _ (by split <;> decide))]
  rw [Reader.andThen_ok (Reader.flag_flag _ _)]
  rw [Reader.andThen_ok (Reader.flag_flag _ _)]
  rw [Reader.andThen_ok (Reader.flag_flag _ _)]
  rw [Reader.map_ok (Reader.flag_flag _ _)]
  cases bright <;> rfl

theorem readBank_enc (b : Vector AttrRecord 16) (rest : List Byte) : readBank (encBank b ++ rest) = .ok b true rest := by
  have h := Reader.times_encAll (p := readAttr) (f := encAttr) (l := b.toList) rest fun a _ r => readAttr_enc a r
  rw [Vector.length_toList] at h
  simp only [readBank, encBank]
  rw [Reader.map_ok h]
  simp only [Bool.and_self, Parsed.ok.injEq, and_true]
  ext i hi <;> simp

theorem readLayout_enc {b : BookLayout} (rest : List Byte) (h : layoutOk b) :
    readLayout (encLayout b ++ rest) = .ok b true rest := by
  simp only [layoutOk, itemOk, Bool.and_eq_true, decide_eq_true_eq, List.all_eq_true, Bool.or_eq_true] at h
  obtain ⟨⟨⟨⟨⟨⟨⟨⟨⟨⟨⟨⟨⟨⟨⟨⟨⟨_, h1⟩, _⟩, h2⟩, h3⟩, h4⟩, _⟩, d⟩, e⟩, f⟩, g⟩, _⟩, _⟩, _⟩, _⟩, _⟩, _⟩, ht⟩ := h
  have hslots : (Reader.times (Reader.nat 1) 4) (encAll by1 ((b.skips ++ List.replicate 4 0).take 4) ++
      (by1 b.dateCol ++ (by1 b.dateWidth ++ (by1 b.descCol ++ (by1 b.descWidth ++ (by1 b.amountCol ++ (by1 b.amountWidth ++
      (by1 b.balanceCol ++ (by1 b.balanceWidth ++ (by1 b.threshold ++ rest)))))))))) =
      .ok ((b.skips ++ List.replicate 4 0).take 4) true
      (by1 b.dateCol ++ (by1 b.dateWidth ++ (by1 b.descCol ++ (by1 b.descWidth ++ (by1 b.amountCol ++ (by1 b.amountWidth ++
      (by1 b.balanceCol ++ (by1 b.balanceWidth ++ (by1 b.threshold ++ rest))))))))) := by
    have hl : ((b.skips ++ List.replicate 4 0).take 4).length = 4 := by simp
    have := Reader.times_encAll (p := Reader.nat 1) (f := by1) (l := (b.skips ++ List.replicate 4 0).take 4)
      (by1 b.dateCol ++ (by1 b.dateWidth ++ (by1 b.descCol ++ (by1 b.descWidth ++ (by1 b.amountCol ++ (by1 b.amountWidth ++
      (by1 b.balanceCol ++ (by1 b.balanceWidth ++ (by1 b.threshold ++ rest)))))))))
      (fun n hn r => Reader.nat_by1 r (by
        have := List.mem_of_mem_take hn
        rw [List.mem_append] at this
        rcases this with hm | hm
        · have := h4 n hm; omega
        · have := List.eq_of_mem_replicate hm; omega))
    rwa [hl] at this
  have hd : ((b.skips ++ List.replicate 4 0).take 4).drop b.skips.length = List.replicate (4 - b.skips.length) 0 := by
    rw [List.drop_take, List.drop_append_of_le_length (by omega), List.drop_length, List.nil_append, List.take_replicate,
      Nat.min_eq_left (by omega)]
  have hk : ((b.skips ++ List.replicate 4 0).take 4).take b.skips.length = b.skips := by
    rw [List.take_take, Nat.min_eq_left h3]; simp
  simp only [readLayout, encLayout, encGeometry, List.append_assoc]
  rw [Reader.andThen_ok (Reader.nat_by1 _ (by omega))]
  rw [Reader.andThen_ok (Reader.nat_by1 _ (by omega))]
  rw [Reader.andThen_ok (Reader.natIn_by1 _ (by omega))]
  rw [Reader.andThen_ok (Reader.map_ok hslots)]
  rw [Reader.andThen_ok (Reader.nat_by1 _ (by omega))]
  rw [Reader.andThen_ok (Reader.nat_by1 _ (by omega))]
  rw [Reader.andThen_ok (Reader.nat_by1 _ (by omega))]
  rw [Reader.andThen_ok (Reader.nat_by1 _ (by omega))]
  rw [Reader.andThen_ok (Reader.nat_by1 _ (by omega))]
  rw [Reader.andThen_ok (Reader.nat_by1 _ (by omega))]
  rw [Reader.andThen_ok (Reader.nat_by1 _ (by omega))]
  rw [Reader.andThen_ok (Reader.nat_by1 _ (by omega))]
  rw [Reader.map_ok (Reader.nat_by1 _ (by omega)), hd, id, hk]
  have hz : ((List.replicate (4 - b.skips.length) 0).all fun x : Nat => x == 0) = true := by simp
  rw [hz]
  simp [h3]

/-- R200: an image that fits the memory passes the tests of its mark, length and check; its entries are then taken. -/
theorem readImage_image (t : Tables) (h : t.imageLength ≤ Config.settingsBytes) :
    readImage t.image = takeImageEntries Tables.defaults imageEntries t.bytes := by
  have hl : ofBe (be 2 t.imageLength) = t.imageLength :=
    ofBe_be (by simp only [Config.settingsBytes] at h; omega)
  have h1 : t.image.take 2 = validMark := rfl
  have h2 : (t.image.drop 2).take 2 = be 2 t.imageLength := rfl
  have h3 : (t.image.drop 4).take 2 = imageCheck t.imageLength t.bytes := rfl
  have h4 : t.image.drop 6 = t.bytes := rfl
  have h5 : t.image.length = t.imageLength := by
    simp [Tables.image, Tables.imageLength, validMark, be, imageCheck, crcBytes]; omega
  have h6 : t.bytes.take (t.imageLength - 6) = t.bytes := by simp [Tables.imageLength]
  have h7 : 6 ≤ t.imageLength := by simp [Tables.imageLength]
  simp [readImage, h1, h2, h3, h4, hl, h6, h5, h, h7]

end Sys2Proof.Machine
end

