-- ==== Sys2Proof/Laws/Loads.lean ====
section
/-! SUPPORT. A command that passes its tests, from its bytes to its response: what the uplink keeps when a block is taken, loads of an entry
whose content reads as it should, and the response DONE (R25, R192 to R195). -/

namespace Sys2Proof.Machine

/-- R25, R30: taking a good block in UP changes the receive queue, the counters and the burst counts alone. -/
theorem Uplink.afterGood_frame (u : Uplink) :
    u.afterGood = { u with rx := u.rx.tail, counters := u.afterGood.counters, burstBlocks := u.afterGood.burstBlocks
                           burstBad := u.afterGood.burstBad } := by
  simp only [Uplink.afterGood, Uplink.taken, Uplink.reportLost, Uplink.dropHead, Uplink.countStatus, Uplink.count]
  unfold Uplink.burstGood; split <;> simp

@[simp] theorem Uplink.afterGood_rx (u : Uplink) : u.afterGood.rx = u.rx.tail := by rw [u.afterGood_frame]
@[simp] theorem Uplink.afterGood_control (u : Uplink) : u.afterGood.control = u.control := by rw [u.afterGood_frame]
@[simp] theorem Uplink.afterGood_data (u : Uplink) : u.afterGood.data = u.data := by rw [u.afterGood_frame]
@[simp] theorem Uplink.afterGood_sending (u : Uplink) : u.afterGood.sending = u.sending := by rw [u.afterGood_frame]
@[simp] theorem Uplink.afterGood_link (u : Uplink) : u.afterGood.link = u.link := by rw [u.afterGood_frame]
@[simp] theorem Uplink.afterGood_held (u : Uplink) : u.afterGood.held = u.held := by rw [u.afterGood_frame]
@[simp] theorem Uplink.afterGood_holdTimer (u : Uplink) : u.afterGood.holdTimer = u.holdTimer := by rw [u.afterGood_frame]

/-- R25, R30: the control queue, as the handling of a good block in UP finds it. -/
@[simp] theorem Uplink.taken_control (u : Uplink) : u.taken.control = u.control := by
  have h := u.afterGood_control; simpa [Uplink.afterGood, Uplink.reportLost, Uplink.count] using h

/-- R24, R192: the response DONE, offered when the block's taking is all that has happened to the uplink. -/
theorem State.answerDone_done {s g : State} {tag : Nat} {c : Cmd} {ret : List Byte} (hu : g.uplink = s.uplink.taken)
    (ht : g.mgmt.taken = bump s.mgmt.taken) :
    AnsweredDone s ((g.answerDone c.code tag ret).onUplink (Uplink.reportLost s.uplink.headLost)) tag c ret := by
  refine ⟨?_, ht, rfl⟩
  simp only [UplinkAnswered, State.answerDone, State.onMgmt, State.onUplink, Uplink.offerResponse, hu,
    Uplink.taken_control]
  rfl

/-- R206: content that reads well is the entry read. -/
theorem readContent_entry {α : Type} {r : Reader α} {bs : List Byte} {a : α} (h : r bs = .ok a true []) :
    readContent r 0 bs = .entry a := by
  simp [readContent, Reader.whole, h]

/-- R195: a load none of whose tests fails. -/
theorem loadPlan_passes {α : Type} {a : α} {indexOk dayBad inUse : Bool} {valueOk : Option α → Bool}
    {effect : Option α → State → State} (h1 : indexOk = true) (h2 : valueOk (some a) = true) (h3 : dayBad = false)
    (h4 : inUse = false) :
    loadPlan (.entry a) true indexOk valueOk dayBad inUse effect
      = .perform fun s => ((effect (some a) s).onMgmt fun m => { m with unsaved := true }, []) := by
  simp [loadPlan, guardPlan, h1, h2, h3, h4]

/-- R193, R195: a LOAD TABLE whose plan passes. -/
theorem State.takeCommand_load {s : State} {tag n i : Nat} {bs : List Byte} {f : State → State × List Byte} (hn : n < 256)
    (hi : i < 256) (h : CommandAtHead s tag ([1, 0, BitVec.ofNat 8 n, BitVec.ofNat 8 i, 0] ++ bs))
    (hp : State.loadTablePlan { s with uplink := s.uplink.taken } true n i 0 bs = .perform f) :
    s.takeCommand (isLoad n) =
      ((f { s with uplink := s.uplink.taken, mgmt := s.mgmt.take 1 tag }).1.answerDone 1 tag
        (f { s with uplink := s.uplink.taken, mgmt := s.mgmt.take 1 tag }).2).onUplink
        (Uplink.reportLost s.uplink.headLost) := by
  have hcode : Cmd.loadTable.code = 1 := rfl
  have := State.takeCommand_perform (row := isLoad n) (c := .loadTable) (f := f) (code := 1) h
    (by simp [isLoad, isCommand, hcode, Nat.mod_eq_of_lt hn])
    rfl (by simpa [State.planOf, State.loadPlanOf, Nat.mod_eq_of_lt hn, Nat.mod_eq_of_lt hi] using hp)
  exact this

end Sys2Proof.Machine
end

