-- ==== Sys2Proof/Tests/Slice0.lean ====
section
/-! SUPPORT. Tests: the well-formedness checks, the spec's worked examples, one step of each command on a small state, and for each
statement of Obligations.lean that has hypotheses a state and operands that meet them. -/

-- One theorem after another: the kernel checks of this file would otherwise ask for a thread each, at once.
set_option Elab.async false

namespace Sys2Proof.Tests

open Sys2Proof.Machine

/-! ### Small states -/

/-- The part after reset with the link UP. -/
def up : State := { State.reset with carrier := true, uplink := { State.reset.uplink with link := .up } }

/-- A GOOD block at the head of the receive queue. -/
def withBlock (cls : BlockClass) (tag : Nat) (body : List Byte) (s : State) : State :=
  { s with uplink := { s.uplink with rx := [{ status := .good, cls := some cls, tag, body, time := 0, lost := 0 }] } }

/-- A management command waiting in UP. -/
def cmd (tag : Nat) (body : List Byte) : State := withBlock .mgmtCmd tag body up

/-- Station 7 with a record, being visited by a POLL. -/
def visited (r : StationRec) (s : State) : State :=
  { s with loop := { s.loop with
      nextAddr := 7, stations := put s.loop.stations 6 r
      visit := some { station := 7, awaited := .poll, markWait := false, rate := .bps1000000 } } }

/-- A SIGNED station. -/
def signed : StationRec := { state := .signed, teller := some (text "ANNA"), misses := 0, frames := [] }

/-- Port 1 with a record. -/
def withPort (r : Port) (s : State) : State := { s with ports := put s.ports 0 r }

/-- A port record, its pulse over. -/
def quietPort : Port := { Port.cold with pulseTimer := none }

/-- The day in a state. -/
def inDay (d : DayState) (s : State) : State := { s with day := { s.day with state := d } }

/-- The next state of a command; the state itself were it to stop. -/
def after (c : Instr) (s : State) : State :=
  match exec c s with
  | .next t => t
  | _ => s

/-- The link in a state. -/
def inLink (l : LinkState) (s : State) : State := { s with uplink := { s.uplink with link := l } }

/-- The transmit queues filled. -/
def queued (control data : List TxBlock) (s : State) : State :=
  { s with uplink := { s.uplink with control, data } }

/-- A waiting block is at the head. -/
theorem head_withBlock (cls : BlockClass) (tag : Nat) (body : List Byte) (s : State) (h : s.uplink.link = .up) :
    HeadBlock (withBlock cls tag body s) cls { status := .good, cls := some cls, tag, body, time := 0, lost := 0 } :=
  ⟨h, rfl, rfl, rfl⟩

/-- Currency 0 loaded. -/
def withCurrency (s : State) : State :=
  { s with tables := { s.tables with currencies := put s.tables.currencies 0 (some ⟨text "QXB", 2, 100⟩) } }

/-- Currency 0 with one denomination; drawer 16 holds 40 pieces of it, and every other drawer none. -/
def withCash : State :=
  let s := withCurrency up
  let holding (n : Nat) : Drawer → Drawer := Drawer.onCurrency 0 fun h => { h with pieces := [⟨n, 0⟩] }
  { s with
    tables := { s.tables with denoms := put s.tables.denoms 0 [⟨5000, .note⟩] }
    drawers := put (s.drawers.map (holding 0)) 16 (holding 40 (s.drawer 16)) }

/-- A book layout. -/
def oneLayout : BookLayout :=
  { linesPerPage := 8, pagesPerBook := 10, skips := [1, 5], dateCol := 1, dateWidth := 10, descCol := 12, descWidth := 16
    amountCol := 30, amountWidth := 12, balanceCol := 44, balanceWidth := 12, threshold := 0 }

/-- A pending line as LOAD PENDING carries it. -/
def lineBytesIn : List Byte :=
  text "004512367890" ++ [2] ++ text "20240229" ++ encText (text "PAYMENT") ++ beInt 8 1000 ++ beInt 8 5000
  ++ text "000000000104" ++ be 2 1

def lineIn : LineIn :=
  { account := text "004512367890", bookType := 2, date := text "20240229", description := text "PAYMENT", amount := 1000
    balance := 5000, reference := text "000000000104", items := 1 }

/-- The store with one line of the account. -/
def oneLineStored : State :=
  let slot : Account := ⟨text "004512367890", 2, [{ lineIn.toLine with reference := text "000000000101" }]⟩
  { up with passbook := { up.passbook with slots := put up.passbook.slots 0 (some slot) } }

theorem look_replicate {α : Type} [Inhabited α] (n i : Nat) (x : α) :
    look (Vector.replicate n x) i = if i < n then x else default := by
  unfold look
  by_cases h : i < n
  · simp [Vector.getD, h]
  · simp [Vector.getD, h]

/-- The layout of book type 2 loaded. -/
def withLayout (s : State) : State := { s with tables := { s.tables with layouts := put s.tables.layouts 2 (some oneLayout) } }

/-- The store with two lines of the account. -/
def twoLinesStored : State :=
  let slot : Account :=
    ⟨text "004512367890", 2, [{ lineIn.toLine with reference := text "000000000101" }, lineIn.toLine]⟩
  { up with passbook := { up.passbook with slots := put up.passbook.slots 0 (some slot) } }

/-- n lines with a reference other than that of `lineIn`. -/
def manyLines (n : Nat) : List PLine := List.replicate n { lineIn.toLine with reference := text "000000000101" }

/-- The store with m lines of the account in slot 0 and n of another in slot 1. -/
def storedLines (m n : Nat) : State :=
  { up with passbook := { up.passbook with
      slots := put (put up.passbook.slots 0 (some ⟨text "004512367890", 2, manyLines m⟩)) 1
        (some ⟨text "004512367891", 2, manyLines n⟩) } }

/-- What `storedLines` holds in each slot. -/
theorem storedLines_slot (m n i : Nat) :
    look (storedLines m n).passbook.slots i
      = if i = 0 then some ⟨text "004512367890", 2, manyLines m⟩
        else if i = 1 then some ⟨text "004512367891", 2, manyLines n⟩ else none := by
  have hs : (storedLines m n).passbook.slots
      = put (put (Vector.replicate 512 none) 0 (some ⟨text "004512367890", 2, manyLines m⟩)) 1
        (some ⟨text "004512367891", 2, manyLines n⟩) := rfl
  rw [hs]
  by_cases h1 : i = 1
  · subst h1; rw [look_put_self _ _ _ (by decide)]; rfl
  · rw [look_put_other _ _ _ _ (Ne.symm h1)]
    by_cases h0 : i = 0
    · subst h0; rw [look_put_self _ _ _ (by decide)]; rfl
    · rw [look_put_other _ _ _ _ (Ne.symm h0), look_replicate, if_neg h0, if_neg h1]
      split <;> rfl

/-! ### Well-formedness: each check refuses an ill-formed term -/

theorem test_wf_req_empty : WellFormed (.req 0 []) = false := by decide
theorem test_wf_req_long : WellFormed (.req 0 (List.replicate 255 0)) = false := by decide +kernel
theorem test_wf_req_longest : WellFormed (.req 0 (List.replicate 254 0)) = true := by decide +kernel
theorem test_wf_echo_length : WellFormed (.testEcho 0 [1, 2, 3]) = false := by decide
theorem test_wf_echo_sixteen : WellFormed (.testEcho 0 (List.replicate 16 0)) = true := by decide
theorem test_wf_tag_station : WellFormed (.deadlineExpiry ⟨25, 0⟩) = false := by decide
theorem test_wf_tag_sequence : WellFormed (.deadlineExpiry ⟨24, 256⟩) = false := by decide
theorem test_wf_drawer : WellFormed (.forceClose 17) = false := by decide
theorem test_wf_attend_port : WellFormed (.attend 0 true) = false := by decide
theorem test_wf_select_port : WellFormed (.selectTimer 9) = false := by decide
theorem test_wf_phase_port : WellFormed (.phaseRequest 9 1) = false := by decide
theorem test_wf_byte_port : WellFormed (.byteRequest 0 0) = false := by decide
theorem test_wf_step_port : WellFormed (.phaseStepTimer 9) = false := by decide
theorem test_wf_reset_port : WellFormed (.portResetEnd 0) = false := by decide
theorem test_wf_retry_port : WellFormed (.retryTimer 9) = false := by decide
theorem test_wf_ready_port : WellFormed (.readyWait 9) = false := by decide
theorem test_wf_poll_port : WellFormed (.pollTimer 0) = false := by decide

/-! ### The spec's worked examples -/

/-- Spec 11: over the digits 1 to 9 the register ends at 6F91h, and the bytes sent are 91h and then 6Fh. -/
theorem test_crc_digits : crc (text "123456789") = 0x6F91 ∧ crcBytes (text "123456789") = [0x91, 0x6F] := by decide +kernel
/-- R2: a POLL to address 7, by hand: 07 + 10 + 00 + E9 = 100h. -/
theorem test_poll_frame : loopFrame 7 0x10 [] = [0x07, 0x10, 0x00, 0xE9] := by decide
/-- R71's examples with q = 50. -/
theorem test_cash_round : (cashRound 50 1224, cashRound 50 1225, cashRound 50 24) = (1200, 1250, 0) := by decide
/-- The worked case of the foreign withdrawal: C of 45,006 with cash unit 10, and the term of T_3 = 500,000 at 6,712 over 10^4. -/
theorem test_foreign_withdrawal : (cashRound 10 45006, reckonExact 4 6712 500000) = (45010, 335600) := by decide
/-- R138's example: check digit 8, and 6 with u = 6. -/
theorem test_check_digit :
    (checkDigit ⟨text "004512367890", 2, text "000731", 3, 5, 0⟩, checkDigit ⟨text "004512367890", 2, text "000731", 3, 6, 0⟩)
      = (8, 6) := by decide +kernel
/-- The worked page turn: page 4 with u = 1 gives 5, with u = 4 gives 9. -/
theorem test_check_digit_next_page :
    (checkDigit ⟨text "004512367890", 2, text "000731", 4, 1, 0⟩, checkDigit ⟨text "004512367890", 2, text "000731", 4, 4, 0⟩)
      = (5, 9) := by decide +kernel
/-- R100's examples. -/
theorem test_amount_places : placeRight 12 (amountText (some (code ',')) (code '.') 2 1234567) = text "   12,345.67" := by
  decide +kernel
theorem test_amount_negative : amountText (some (code ',')) (code '.') 2 (-5) = text "-0.05" := by decide +kernel
theorem test_amount_too_wide : placeRight 2 (amountText (some (code ',')) (code '.') 0 250) = text "**" := by decide +kernel
/-- R101: the date of the composed reply. -/
theorem test_date : (readDate (text "20240229")).map (fun x => dateText .dayFirst (code '.') (four x.1) x.2.1 x.2.2)
    = some (text "29.02.2024") := by decide +kernel
/-- R81: the drawer held over its maximum, position by position. -/
theorem test_limit_states :
    [5100000, 4850000, 4750000, 4830000, 5030000, 4790000].foldl
      (fun (acc : LimitState × List LimitState) p =>
        let n := evalLimit ⟨500000, 4000000, 5000000, 200000⟩ acc.1 p
        (n, acc.2 ++ [n])) (.normal, [])
      = (.high, [.over, .over, .high, .high, .over, .high]) := by decide
/-- R141: the worked summary at the threshold: 20,000 - 1,500 - 2,250 + 10,000, of four items. -/
theorem test_summary_amount :
    (summaryLine ([20000, -1500, -2250, 10000].map fun a => { (default : PLine) with amount := a, items := 1 }) default).amount
      = 26250 := by decide
/-- R135: lines per page 8 with skip lines 1 and 5 leave six usable lines. -/
theorem test_usable_lines : BookLayout.usable { (default : BookLayout) with linesPerPage := 8, skips := [1, 5] } = [2, 3, 4, 6, 7, 8] := by
  decide
/-- R107: the text of an alert. -/
theorem test_alert_text : alertText none ⟨.drawerHigh, 6⟩ = text "DRAWER 6 HIGH" := by decide +kernel

/-! ### What the statements' hypotheses ask for: the machine as a whole -/

/-- R4, R69, R116: the first and last loop address, drawer and port. -/
theorem test_meets_ranges : isStation 1 = true ∧ isStation 24 = true ∧ isStation 25 = false ∧ isDrawer 0 = true
    ∧ isDrawer 16 = true ∧ isDrawer 17 = false ∧ isPort 1 = true ∧ isPort 8 = true ∧ isPort 9 = false := by decide

theorem test_meets_StepRunsFrontCommand :
    ({ State.reset with pending := [.visit, .freeze] } : State).pending = .visit :: [.freeze] := rfl

theorem test_meets_EmptyQueueTicks : State.reset.pending = [] := rfl

theorem test_meets_CommandsKeepQueue : exec .clockSecond State.reset = .next State.reset := rfl

/-- Every queue at its capacity, and three responses owed. -/
def fullQueues : State :=
  { up with
    pending := [.badBlock]
    uplink := { up.uplink with
      rx := List.replicate 8 { status := .checkError, cls := none, tag := 0, body := [], time := 0, lost := 0 }
      data := List.replicate 16 ⟨.request, 0, []⟩, control := [⟨.sync, 0, []⟩, ⟨.mgmtResp, 1, []⟩, ⟨.mgmtResp, 2, []⟩] }
    mgmt := { up.mgmt with inFlight := some ⟨10, 3⟩ } }

theorem test_meets_StepKeepsQueuesFit : QueuesFit fullQueues ∧ ∃ t, step fullQueues = .next t :=
  ⟨by unfold QueuesFit; decide +kernel, _, rfl⟩

/-- A journal of one entry. -/
def oneEntry : Journal := Journal.write 5 { JEntry.ofKind .transaction with forward := .unforwarded } Journal.cold

theorem test_meets_StepKeepsJournalSound :
    oneEntry.Sound ∧ ∃ t, step { up with journal := oneEntry, pending := [.visit] } = .next t :=
  ⟨by unfold Journal.Sound; decide +kernel, _, rfl⟩

/-- The clock at its last second, and the last byte of the settings memory written. -/
def lastSecond : State :=
  { up with pending := [.clockSecond], mgmt := { up.mgmt with clock := 86399, clockSet := true, memory := [(32767, 1)] } }

theorem test_meets_StepKeepsClockAndMemory : lastSecond.mgmt.Sound ∧ ∃ t, step lastSecond = .next t :=
  ⟨by unfold Mgmt.Sound; decide +kernel, _, rfl⟩

/-! ### Encodings and arithmetic -/

theorem test_meets_ImageReadsBack : Tables.defaults.Sound ∧ Tables.defaults.imageLength ≤ Config.settingsBytes := by
  refine ⟨⟨by decide, by decide, ?_, ?_, ?_, ?_, ?_, ?_, ?_, ?_, ?_⟩, by decide +kernel⟩
  · intro a h1 h2
    simp only [Tables.station, Tables.defaults, look_replicate]
    split
    · decide
    · omega
  · intro k e h
    simp only [Tables.kind, Tables.defaults, look_replicate] at h
    split at h
    · cases h
    · split at h <;> cases h
  · intro c x h
    simp only [Tables.currency, Tables.defaults, look_replicate] at h
    split at h <;> cases h
  · intro c d x y h
    simp only [Tables.currency, Tables.defaults, look_replicate] at h
    split at h <;> cases h
  · intro c
    have h : Tables.defaults.denom c = [] := by
      simp only [Tables.denom, Tables.defaults, look_replicate]
      split <;> rfl
    rw [h]
    exact ⟨by decide, fun h => absurd rfl h⟩
  · intro c h
    simp only [Tables.rate, Tables.defaults, look_replicate, h, if_true]
    rcases Nat.eq_zero_or_pos c with rfl | _ <;> simp [rateOk]
  · intro d h
    simp only [Tables.limit, Tables.defaults, look_replicate, h, if_true]
    decide
  · intro n f h
    simp only [Tables.format, Tables.defaults, look_replicate] at h
    split at h
    · cases h
    · split at h <;> cases h
  · intro k b h
    simp only [Tables.layout, Tables.defaults, look_replicate] at h
    split at h <;> cases h

theorem test_meets_LoopFramesCheckAndClassify :
    answerSuits .poll (BitVec.ofNat 8 0x20) [1] = true ∧ answerSuits .poll (BitVec.ofNat 8 0x21) (0 :: List.replicate 254 7) = true
    ∧ (0 :: List.replicate 254 (7 : Byte)).length ≤ 255
    ∧ answerSuits (.test (List.replicate 16 9)) (BitVec.ofNat 8 0x23) (0 :: List.replicate 16 9) = true := by decide +kernel

theorem test_meets_BlocksAreReceived :
    (List.replicate 1024 (0 : Byte)).length ≤ Config.maxBody ∧ mustBeEmpty (some .request) = false
    ∧ mustBeEmpty (some .sync) = true ∧ (65534 : Nat) ≠ 65535 := by decide +kernel

theorem test_meets_CashRoundsToNearest : 0 < 1 ∧ cashRound 1 99999999999 = 99999999999 := by decide

theorem test_meets_SegmentsPackGreedily :
    (∀ i ∈ [List.replicate 512 (0 : Byte), [1]], i.length ≤ Config.segmentBytes)
    ∧ packGroups 512 512 [List.replicate 512 0, [1]] = [[List.replicate 512 0], [[1]]] := by decide +kernel

/-! ### The station loop -/

/-- A station's turn. -/
def turnOf (a : Nat) (r : StationRec) (s : State) : State :=
  { s with loop := { s.loop with nextAddr := a, stations := put s.loop.stations (a - 1) r } }

theorem test_meets_VisitServesStation :
    up.phase = .running ∧ up.loop.visit = none ∧ isStation (turnOf 24 signed up).loop.nextAddr = true
    ∧ ((turnOf 24 signed up).station 24).state = .signed
    ∧ ((turnOf 1 { signed with state := .present } up).station 1).state = .present := by decide +kernel

/-- What a visit sends: row 1, row 24 with row 1 clean, row 23 with every other row clean, a READY, and nothing. -/
theorem test_meets_VisitServesStation_frames :
    let sc := up.screen 7
    let only (r : Nat) : StationScreen := { sc with dirty := put (Vector.replicate 24 none) (r - 1) (some ⟨2, 80⟩) }
    sc.dirtySpan 1 = some ⟨1, 80⟩ ∧ (only 24).dirtySpan 24 = some ⟨2, 80⟩ ∧ (only 24).dirtySpan 1 = none
    ∧ (only 23).dirtySpan 23 = some ⟨2, 80⟩ ∧ (only 23).dirtySpan 1 = none ∧ (only 23).dirtySpan 24 = none
    ∧ (∀ q, 2 ≤ q → q < 23 → (only 23).dirtySpan q = none)
    ∧ (∀ r, 1 ≤ r → r ≤ 24 → (only 25).dirtySpan r = none) ∧ (only 25).pendingReady = true
    ∧ ({ only 25 with pendingReady := false } : StationScreen).pendingReady = false := by
  refine ⟨by decide +kernel, by decide +kernel, by decide +kernel, by decide +kernel, by decide +kernel, by decide +kernel, ?_, ?_,
    by decide +kernel, rfl⟩
  · intro q h1 h2
    have all : ∀ q, q < 23 → 2 ≤ q →
        ({ up.screen 7 with dirty := put (Vector.replicate 24 none) 22 (some ⟨2, 80⟩) } : StationScreen).dirtySpan q = none := by
      decide +kernel
    exact all q h2 h1
  · intro r h1 h2
    have all : ∀ r, r < 25 → 1 ≤ r →
        ({ up.screen 7 with dirty := put (Vector.replicate 24 none) 24 (some ⟨2, 80⟩) } : StationScreen).dirtySpan r = none := by
      decide +kernel
    exact all r (by omega) h1

/-- A test record of station 7, the frame to come being its 127th. -/
def testRec (p : Pattern) : TestRec :=
  { station := 7, pattern := p, injection := true, sent := 126, errors := 0, capture := none }

theorem test_meets_VisitPassesOrTests :
    ((turnOf 7 { signed with state := .held } up).station 7).state = .held
    ∧ ((turnOf 7 { signed with state := .absent } up).station 7).state = .absent ∧ up.loop.cycle = 0
    ∧ ({ up.loop with cycle := 15 } : Loop).cycle ≠ 0
    ∧ ((turnOf 7 { signed with state := .test } up).station 7).state = .test
    ∧ ({ up.loop with test := some (testRec (.fixed (List.replicate 8 1))) } : Loop).test
        = some (testRec (.fixed (List.replicate 8 1)))
    ∧ (testRec (.pseudo (BitVec.allOnes 15))).pattern = .pseudo (BitVec.allOnes 15)
    ∧ ((testRec (.fixed [])).sent + 1) % 127 = 0 := by decide +kernel

theorem test_meets_NilSettlesVisit :
    (visited signed up).loop.visit = some { station := 7, awaited := .poll, markWait := false, rate := .bps1000000 }
    ∧ isStation 7 = true ∧ (0 : Byte).toNat < 2 ∧ (1 : Byte).toNat < 2
    ∧ ((visited signed up).station 7).state = .signed
    ∧ ((visited { signed with state := .absent } up).station 7).state = .absent
    ∧ (visited signed { up with loop := { up.loop with goodCount := 511 } }).loop.goodCount + 1 = 512 := by decide +kernel

/-- What `visited` waits for at station 7. -/
def visit7 : Visit := { station := 7, awaited := .poll, markWait := false, rate := .bps1000000 }

/-- Station 7 SIGNED, PRESENT and ABSENT, with and without an alert, frame refused clear and set. -/
theorem test_meets_AlertAckRemovesHead :
    AnswersPoll (visited signed up) visit7 0 ∧ AnswersPoll (visited { signed with state := .present } up) visit7 1
    ∧ AnswersPoll (visited { signed with state := .absent } up) visit7 1
    ∧ ((visited signed up).screen 7).alerts = []
    ∧ ((visited { signed with state := .absent } (up.giveAlert 7 ⟨.drawerHigh, 6⟩)).screen 7).alerts = ⟨.drawerHigh, 6⟩ :: [] := by
  unfold AnswersPoll
  decide +kernel

/-- Kind 1 an ENQUIRY that is forwarded. -/
def enquiry : KindEntry :=
  { cls := .enquiry, forwarded := true, standIn := false, supervisorOnly := false, passbook := false, localFormat := 1 }

/-- Station 7 SIGNED and visited, the day OPEN, the data queue one short of full. -/
def asking : State :=
  { visited signed (inDay .opened up) with
    tables := { up.tables with kinds := put up.tables.kinds 0 (some enquiry) }
    uplink := { up.uplink with data := List.replicate 15 ⟨.request, 0, []⟩ } }

/-- Station 7 ABSENT with a teller ID kept, answering the POLL that brings it back. -/
def returning (s : State) : State := visited { signed with state := .absent } s

/-- The enquiry of a SIGNED station, and of one that returns with it, frame refused set. -/
theorem test_meets_RequestIsAccepted :
    PassesIntake asking visit7 0 [1, 0, 0, 0] { kind := 1, account := none, legs := [], fields := [] } enquiry
    ∧ PassesIntake (returning asking) visit7 1 [1, 0, 0, 0] { kind := 1, account := none, legs := [], fields := [] } enquiry
    ∧ (returning asking).intakeReason 7 { kind := 1, account := none, legs := [], fields := [] } = some .notSigned
    ∧ enquiry.forwarded = true ∧ asking.uplink.link = .up ∧ asking.uplink.data.length < Config.dataCapacity := by
  unfold PassesIntake AnswersPoll
  decide +kernel

/-- Station 7, a supervisor's with drawer 16, SIGNED and visited; the day OPEN, drawers 0 and 16 OPEN with 40 pieces of the one
denomination of currency 0; kind 1 of a class, completed at the branch or forwarded. -/
def atBranch (cls : KindClass) (forwarded : Bool) : State :=
  let s := visited signed (inDay .opened withCash)
  { s with
    tables := { s.tables with
      params := { s.params with standInEnable := true, floorLimit := 1000000, budget := 1000000 }
      stations := put s.tables.stations 6 ⟨.supervisor, some 16, 0, none⟩
      kinds := put s.tables.kinds 0 (some ⟨cls, forwarded, true, false, true, 1⟩) }
    drawers := put (put s.drawers 0 { s.drawer 16 with isOpen := true }) 16 { s.drawer 16 with isOpen := true } }

/-- A request of kind 1 with one leg of 2 pieces of 50.00 in currency 0, by spec 11: kind, no account, one leg of currency, direction,
reserved, amount and one pair, and no field. -/
def oneLeg (direction : Byte) : List Byte := [1, 0, 1, 0, direction, 0] ++ be 5 10000 ++ [1, 0, 0, 2] ++ [0]

def oneLegRead (dir : Direction) : Request :=
  { kind := 1, account := none, legs := [⟨0, dir, 10000, [⟨0, 2⟩]⟩], fields := [] }

def noLegs : Request := { kind := 1, account := none, legs := [], fields := [] }

/-- A malformed body, a refusal, and LINE CONGESTED. -/
theorem test_meets_RequestsEndAtBranch_refused :
    AnswersPoll asking visit7 0 ∧ AnswersPoll (returning asking) visit7 1 ∧ readRequest [1] = none ∧ ([1] : List Byte) ≠ []
    ∧ readRequest [1, 0, 0, 0] = some noLegs ∧ ((inDay .closed asking).answering 7).intakeReason 7 noLegs = some .dayClosed
    ∧ ((inDay .closed (returning asking)).answering 7).intakeReason 7 noLegs = some .dayClosed
    ∧ (asking.answering 7).intakeReason 7 noLegs = none ∧ asking.uplink.link = .up ∧ asking.tables.kind 1 = some enquiry
    ∧ Config.dataCapacity ≤ (queued [] (List.replicate 16 ⟨.request, 0, []⟩) asking).uplink.data.length
    ∧ ((queued [] (List.replicate 16 ⟨.request, 0, []⟩) asking).answering 7).intakeReason 7 noLegs = none := by
  unfold AnswersPoll
  decide +kernel

/-- A kind of each shape that passes intake and completes at the branch, and a stand-in. -/
theorem test_meets_RequestsEndAtBranch :
    PassesIntake (atBranch .balance false) visit7 0 (oneLeg 1) (oneLegRead .cashIn) ⟨.balance, false, true, false, true, 1⟩
    ∧ PassesIntake (atBranch .toReserve false) visit7 0 (oneLeg 2) (oneLegRead .cashOut) ⟨.toReserve, false, true, false, true, 1⟩
    ∧ PassesIntake (atBranch .fromReserve false) visit7 0 (oneLeg 1) (oneLegRead .cashIn) ⟨.fromReserve, false, true, false, true, 1⟩
    ∧ PassesIntake (atBranch .closeDrawer false) visit7 0 [1, 0, 0, 0] noLegs ⟨.closeDrawer, false, true, false, true, 1⟩
    ∧ PassesIntake (atBranch .signOff false) visit7 0 [1, 0, 0, 0] noLegs ⟨.signOff, false, true, false, true, 1⟩
    ∧ PassesIntake (atBranch .closeDay false) visit7 0 [1, 0, 0, 0] noLegs ⟨.closeDay, false, true, false, true, 1⟩
    ∧ PassesIntake (atBranch .enquiry false) visit7 0 [1, 0, 0, 0] noLegs ⟨.enquiry, false, true, false, true, 1⟩
    ∧ PassesIntake (atBranch .cashIn false) visit7 0 (oneLeg 1) (oneLegRead .cashIn) ⟨.cashIn, false, true, false, true, 1⟩
    ∧ PassesIntake (inLink .down (atBranch .cashOut true)) visit7 0 (oneLeg 2) (oneLegRead .cashOut)
        ⟨.cashOut, true, true, false, true, 1⟩
    ∧ PassesIntake (returning (atBranch .cashIn false)) visit7 1 (oneLeg 1) (oneLegRead .cashIn) ⟨.cashIn, false, true, false, true, 1⟩
    ∧ (inLink .down (atBranch .cashOut true)).uplink.link ≠ .up
    ∧ ((atBranch .balance false).tables.station 7).drawer = some 16 ∧ isDrawer 16 = true := by
  unfold PassesIntake AnswersPoll
  refine ⟨?_, ?_, ?_, ?_, ?_, ?_, ?_, ?_, ?_, ?_, ?_, ?_, ?_⟩ <;> decide +kernel

/-- Station 7 in TEST, its echo awaited. -/
def echoing : State :=
  { up with loop := { up.loop with
      test := some (testRec (.fixed [1, 2, 3, 4, 5, 6, 7, 8]))
      visit := some { station := 7, awaited := .test [1, 2, 3, 4, 5, 6, 7, 8], markWait := false, rate := .bps1000000 } } }

theorem test_meets_EchoIsJudged :
    (echoing.loop.visit.map Visit.awaited) = some (.test [1, 2, 3, 4, 5, 6, 7, 8])
    ∧ echoing.loop.test = some (testRec (.fixed [1, 2, 3, 4, 5, 6, 7, 8])) ∧ (testRec (.fixed [])).capture = none
    ∧ ([1, 2, 3, 4, 5, 6, 7, 9] : List Byte) ≠ [1, 2, 3, 4, 5, 6, 7, 8]
    ∧ ([1, 2, 3, 4, 5, 6, 7, 9] : List Byte).length = 8 := by decide +kernel

/-- The characters of an answer that arrived marked and unmarked as they should. -/
def chars (bytes : List Byte) : List LoopChar := bytes.mapIdx fun i b => { marked := i = 0, data := b, stopOk := true }

/-- A visit that waits for the line to be at mark, at the last address of the cycle. -/
theorem test_meets_MissIsCounted_mark :
    let s : State := { up with loop := { up.loop with nextAddr := 24, cycle := 15, visit := some { visit7 with markWait := true } } }
    s.loop.visit = some { visit7 with markWait := true } ∧ ({ visit7 with markWait := true } : Visit).markWait = true
    ∧ s.loop.nextAddr = 24 := by decide

theorem test_meets_MissIsCounted :
    classify 7 .poll (chars [7, 0x20, 1, 0, 0xD9]) = .check
    ∧ classify 7 .poll [{ marked := true, data := 7, stopOk := false }] = .framing
    ∧ classify 7 .poll (chars [8]) = .firstCharacter ∧ classify 7 .poll (chars [7, 0x23, 1, 0, 0xD5]) = .discarded
    ∧ classify 7 .poll (chars [7, 0x20, 1, 0, 0xD8]) = .good
    ∧ ((visited { signed with misses := 7 } up).station 7).misses + 1 = 8
    ∧ ((visited { signed with misses := 6 } up).station 7).misses + 1 ≠ 8
    ∧ ((visited { signed with state := .absent } up).station 7).state ≠ .signed
    ∧ (visited signed { up with loop := { up.loop with failCount := 31 } }).loop.failCount + 1 = 32
    ∧ up.params.fallbackDisable = false ∧ up.loop.rate.lower = some .bps500000 ∧ LoopRate.lower .bps250000 = none := by
  decide +kernel

/-- Every way in which an answer to a POLL, or to a TEST frame of eight bytes, fails. -/
theorem test_meets_MissIsCounted_answers :
    let poll : Visit := { station := 7, awaited := .poll, markWait := false, rate := .bps1000000 }
    let test : Visit := { poll with awaited := .test (List.replicate 8 1) }
    AnswerFails poll .answerTimeout false false ∧ AnswerFails poll .answerMarkTimeout true false
    ∧ AnswerFails poll (.unusableAnswer (chars [7, 0x20, 1, 0, 0xD9])) true false
    ∧ AnswerFails poll (.unusableAnswer (chars [8])) true true
    ∧ AnswerFails poll (.unusableAnswer (chars [7, 0x23, 1, 0, 0xD5])) false false
    ∧ AnswerFails poll (.nil 2) false false ∧ AnswerFails poll (.req 0 []) false false
    ∧ AnswerFails poll (.testEcho 0 [1, 2, 3, 4, 5, 6, 7, 8]) false false
    ∧ AnswerFails test (.nil 0) false false ∧ AnswerFails test (.testEcho 0 [1]) false false
    ∧ AnswerFails test .answerTimeout false false := by
  refine ⟨.inl ⟨rfl, rfl, rfl⟩, .inr (.inl ⟨rfl, rfl, rfl⟩), ?_, ?_, ?_, ?_, ?_, ?_, ?_, ?_, .inl ⟨rfl, rfl, rfl⟩⟩
  · exact .inr (.inr (.inl ⟨_, rfl, .inl ⟨.inr (by decide +kernel), rfl, rfl⟩⟩))
  · exact .inr (.inr (.inl ⟨_, rfl, .inr (.inl ⟨by decide +kernel, rfl, rfl⟩)⟩))
  · exact .inr (.inr (.inl ⟨_, rfl, .inr (.inr ⟨by decide +kernel, rfl, rfl⟩)⟩))
  · exact .inr (.inr (.inr (.inl ⟨_, .inl rfl, .inr (by decide), rfl, rfl⟩)))
  · exact .inr (.inr (.inr (.inr (.inl ⟨_, _, rfl, .inr (.inr rfl), rfl, rfl⟩))))
  · exact .inr (.inr (.inr (.inr (.inr ⟨_, _, rfl, .inl rfl, rfl, rfl⟩))))
  · exact .inr (.inr (.inr (.inl ⟨_, .inl rfl, .inl (by decide), rfl, rfl⟩)))
  · exact .inr (.inr (.inr (.inr (.inr ⟨_, _, rfl, .inr (.inr ⟨_, rfl, by decide⟩), rfl, rfl⟩))))

/-! ### The uplink -/

theorem test_meets_CarrierBeginsSync : State.reset.phase = .running ∧ State.reset.uplink.link = .down := by decide

theorem test_meets_CarrierLossTakesLinkDown :
    (inLink .sync up).uplink.link = .sync ∧ up.uplink.link ≠ .down ∧ (inDay .sending up).day.state = .sending
    ∧ up.day.state ≠ .sending ∧ up.day.state ≠ .closing := by decide


/-- A receive queue of eight blocks. -/
def eightBlocks : List RxBlock :=
  List.replicate 8 { status := .good, cls := some .hold, tag := 0, body := [], time := 0, lost := 254 }

/-- The bytes of a block of branch 5 with a class code and a body, and its right check sequence. -/
def arriving (code : Nat) (body : List Byte) : List Byte := by1 code ++ be 2 5 ++ be 2 9 ++ be 2 body.length ++ body

/-- A length over 1,024, a wrong check sequence, a HOLD with a body, a SYNC without, a class code of no class, the branch and another. -/
theorem test_meets_GoodBlockIsStored_raw :
    1024 < 1025 ∧ 1025 < 65536 ∧ 255 < 256 ∧ (crcBytes (arriving 2 [7])).length = 2 ∧ crcBytes (arriving 2 [7]) ≠ [0, 0]
    ∧ nameIn blockClassNames 8 = some .hold ∧ nameIn blockClassNames 9 = some .release ∧ nameIn blockClassNames 10 = some .sync
    ∧ ([7] : List Byte) ≠ [] ∧ nameIn blockClassNames 12 = none ∧ nameIn blockClassNames 0 = none
    ∧ up.params.branch = 0 ∧ 5 ≠ up.params.branch
    ∧ ({ up.params with branch := 5 } : BranchParams).branch = 5 ∧ State.reset.uplink.link = .down := by decide +kernel

theorem test_meets_GoodBlockIsStored :
    up.uplink.link ≠ .down ∧ up.params.branch < 65536 ∧ up.uplink.rx.length < 8 ∧ 8 ≤ eightBlocks.length
    ∧ eightBlocks = eightBlocks.dropLast ++ [eightBlocks.getLastD default] ∧ mustBeEmpty (some .reply) = false := by decide +kernel

/-- A stored block with a check error at the head. -/
def badHead (burst : Nat) (l : LinkState) : State :=
  { up with uplink := { up.uplink with
      link := l, burstBad := burst
      rx := [{ status := .checkError, cls := none, tag := 0, body := [], time := 0, lost := 3 }] } }

theorem test_meets_BadBlockIsDiscarded :
    (badHead 15 .up).uplink.burstBad + 1 = 16 ∧ (badHead 14 .up).uplink.burstBad + 1 ≠ 16
    ∧ (badHead 0 .sync).uplink.link ≠ .up ∧ (badHead 0 .sync).uplink.link ≠ .down ∧ RxStatus.checkError ≠ .good
    ∧ (badHead 0 .up).uplink.rx = { status := .checkError, cls := none, tag := 0, body := [], time := 0, lost := 3 } :: [] := by
  decide +kernel

/-- A good block of a class the part only sends and one of no class, in UP; a good REPLY in SYNC and RECOVERY. -/
theorem test_meets_BadBlockIsDiscarded_good :
    let head (cls : Option BlockClass) (l : LinkState) : State := { up with uplink := { up.uplink with
      link := l, rx := [{ status := .good, cls, tag := 0, body := [], time := 0, lost := 3 }] } }
    (head (some .request) .up).uplink.link = .up ∧ (head none .up).uplink.rx.map RxBlock.cls = [none]
    ∧ (head (some .reply) .sync).uplink.link ≠ .up ∧ (head (some .reply) .recovery).uplink.link ≠ .down
    ∧ (head (some .reply) .recovery).uplink.rx.map RxBlock.cls ≠ [some .sync] := by decide

/-- A good SYNC at the head, complete at 1,000 ms. -/
def syncHead (l : LinkState) (stamp : Option Nat) (n : Nat) : State :=
  { up with uplink := { up.uplink with
      link := l, firstSync := stamp, recoverySyncs := n
      rx := [{ status := .good, cls := some .sync, tag := 0, body := [], time := 1001, lost := 0 }] } }

theorem test_meets_SyncBringsLinkUp :
    (syncHead .sync none 0).uplink.firstSync = none ∧ (syncHead .sync (some 0) 0).uplink.firstSync = some 0 ∧ 0 + 1000 < 1001
    ∧ (syncHead .sync (some 1) 0).uplink.firstSync = some 1 ∧ 1001 ≤ 1 + 1000
    ∧ (syncHead .recovery none 0).uplink.recoverySyncs + 1 ≠ 2 ∧ (syncHead .recovery none 1).uplink.recoverySyncs + 1 = 2
    ∧ (syncHead .up none 0).uplink.link = .up
    ∧ ((syncHead .up none 0).uplink.rx.map fun b => (b.status, b.cls)) = [(.good, some .sync)] := by decide +kernel

/-- An attempt in SYNC after some failures, against a threshold. -/
def attempting (n threshold : Nat) (primary : LineRate) : State :=
  { up with
    uplink := { up.uplink with link := .sync, attemptTimer := some 0, syncFailures := n }
    tables := { up.tables with params := { up.params with syncThreshold := threshold, uplinkRate := primary } } }

theorem test_meets_AttemptFailureSwitchesRate :
    (attempting 254 0 .bps9600).uplink.syncFailures < 255 ∧ (attempting 254 0 .bps9600).params.syncThreshold = 0
    ∧ (attempting 1 3 .bps64000).uplink.syncFailures + 1 < (attempting 1 3 .bps64000).params.syncThreshold
    ∧ (attempting 2 3 .bps64000).params.syncThreshold ≤ (attempting 2 3 .bps64000).uplink.syncFailures + 1
    ∧ LineRate.fallback .bps64000 = some .bps19200 ∧ LineRate.fallback .bps9600 = none
    ∧ (attempting 2 3 .bps64000).uplink.attemptTimer ≠ none := by decide +kernel

/-- The link with every timer of the uplink at its end. -/
def timersOver (l : LinkState) : State :=
  { up with uplink := { up.uplink with
      link := l, syncTimer := some 0, keepAliveTimer := some 0, silenceTimer := some 0, recoveryTimer := some 0 } }

theorem test_meets_SyncsAreOffered :
    (timersOver .sync).uplink.syncTimer ≠ none ∧ (timersOver .up).uplink.keepAliveTimer ≠ none := by decide

theorem test_meets_SilenceAndRecoveryLimit :
    (timersOver .up).uplink.link = .up ∧ (timersOver .up).uplink.silenceTimer ≠ none
    ∧ (timersOver .recovery).uplink.link = .recovery ∧ (timersOver .recovery).uplink.recoveryTimer ≠ none
    ∧ (timersOver .recovery).carrier = true ∧ ({ timersOver .recovery with carrier := false } : State).carrier = false := by
  decide

/-- The part held. -/
def heldUp : State := { up with uplink := { up.uplink with held := true, holdTimer := some 0 } }

theorem test_meets_HoldAndRelease :
    (∃ b, HeadBlock (withBlock .hold 0 [] up) .hold b)
    ∧ (∃ b, HeadBlock (withBlock .release 0 [] heldUp) .release b) ∧ heldUp.uplink.held = true ∧ heldUp.uplink.holdTimer ≠ none
    ∧ (∃ b, HeadBlock (withBlock .release 0 [] up) .release b) ∧ up.uplink.held = false :=
  ⟨⟨_, head_withBlock _ _ _ _ rfl⟩, ⟨_, head_withBlock _ _ _ _ rfl⟩, rfl, by decide, ⟨_, head_withBlock _ _ _ _ rfl⟩, rfl⟩

theorem test_meets_TransmitterChooses :
    up.uplink.sending = none ∧ (queued [⟨.mgmtResp, 1, []⟩] [] up).uplink.control = ⟨.mgmtResp, 1, []⟩ :: []
    ∧ (queued [] [⟨.request, 1, []⟩] heldUp).uplink.data = ⟨.request, 1, []⟩ :: [] ∧ heldUp.uplink.held = true
    ∧ (∃ b ∈ (queued [⟨.sync, 0, []⟩] [] (inLink .recovery up)).uplink.control, b.cls = .sync)
    ∧ (∀ b ∈ (queued [⟨.mgmtResp, 0, []⟩] [] (inLink .sync up)).uplink.control, b.cls ≠ .sync)
    ∧ up.uplink.link = .up ∧ up.uplink.control = [] ∧ up.uplink.data = [] ∧ State.reset.uplink.link = .down := by decide +kernel

/-- A block being sent. -/
def sendingBlock (cls : BlockClass) (broken : Bool) : State :=
  { up with uplink := { up.uplink with sending := some ⟨⟨cls, 1, []⟩, 0, .bps64000, broken⟩ } }

/-- The block in the transmitter when it is said to have left. -/
theorem test_meets_TransmitterChooses_leaves :
    (sendingBlock .request false).uplink.sending = some ⟨⟨.request, 1, []⟩, 0, .bps64000, false⟩
    ∧ (sendingBlock .eodSeg false).uplink.sending = some ⟨⟨.eodSeg, 1, []⟩, 0, .bps64000, false⟩
    ∧ (sendingBlock .sync false).uplink.sending = some ⟨⟨.sync, 1, []⟩, 0, .bps64000, false⟩
    ∧ (sendingBlock .sync true).uplink.sending = some ⟨⟨.sync, 1, []⟩, 0, .bps64000, true⟩ := by decide

/-! ### Transactions in flight -/

/-- Station 7's enquiry SENT and unanswered, its deadline come. -/
def enquiryEntry : OutEntry :=
  { tag := ⟨7, 41⟩, kind := 1, station := 7, drawer := none, state := .sent, acceptance := 0, deadline := 30, account := none
    legs := [], journalSeq := none, timer := some 0 }

/-- The part with that entry outstanding. -/
def waiting : State := { asking with router := { asking.router with table := [enquiryEntry] } }

/-- An approved reply without amounts, fields or a line. -/
def approval : List Byte := [1, 0, 0, 0, 0, 0, 0, 0]

theorem test_meets_ApprovedReplyCompletes :
    (∃ b, HeadBlock (withBlock .reply (7 * 256 + 41) approval waiting) .reply b)
    ∧ readReply approval = some { approved := true, reason := none, format := none, reference := none, amounts := [], data := []
                                  line := none }
    ∧ waiting.router.entry (tagOf (7 * 256 + 41)) = some enquiryEntry ∧ waiting.tables.kind 1 = some enquiry
    ∧ enquiry.cls ≠ .signOn ∧ waiting.day.state ≠ .closing ∧ enquiryEntry.legs.map Leg.amount = [] :=
  ⟨⟨_, head_withBlock _ _ _ _ rfl⟩, by decide +kernel, by decide +kernel, by decide +kernel, by decide, by decide, rfl⟩

/-- An entry of station 7, drawer 16, with an OUT leg of 2 pieces, in a state; 2 of the drawer's 40 pieces reserved for it. -/
def payingOut (state : EntryState) : OutEntry :=
  { enquiryEntry with state, drawer := some 16, legs := [⟨0, .cashOut, 10000, 10000, 0, [⟨0, 2⟩]⟩] }

/-- The part with that entry outstanding, and its block queued. -/
def paying (state : EntryState) : State :=
  let s := (inDay .opened withCash)
  { s with
    tables := { s.tables with kinds := put s.tables.kinds 0 (some ⟨.cashOut, true, true, false, true, 1⟩) }
    router := { s.router with table := [payingOut state] }
    uplink := { s.uplink with data := [⟨.request, 7 * 256 + 41, []⟩] }
    drawers := put s.drawers 16 (Drawer.onCurrency 0 (fun h => { h with pieces := [⟨40, 2⟩] }) (s.drawer 16)) }

/-- A reply with a result, a reason, some amounts and a passbook line's bytes, by spec 11: result, reason, no format, no reference, the
amounts, no data field, the line, reserved. -/
def replyBytes (result reason : Byte) (amounts : List Nat) (line : List Byte) : List Byte :=
  [result, reason, 0, 0] ++ encList (be 5) amounts ++ [0] ++ line ++ [0]

/-- A passbook line in a reply, its amount given. -/
def replyLine (amount : Int) : List Byte :=
  1 :: (text "004512367890" ++ [2] ++ text "20240229" ++ encText (text "PAYMENT") ++ beInt 8 amount ++ beInt 8 5000
    ++ text "000000000104")

theorem test_meets_ApprovedReplyCompletes_legs :
    (∃ b, HeadBlock (withBlock .reply (7 * 256 + 41) (replyBytes 1 0 [10000] (replyLine 1000)) (paying .queued)) .reply b)
    ∧ (readReply (replyBytes 1 0 [10000] (replyLine 1000))).map (fun r => (r.approved, r.amounts, r.line.isSome))
        = some (true, [10000], true)
    ∧ (paying .queued).router.entry (tagOf (7 * 256 + 41)) = some (payingOut .queued)
    ∧ (payingOut .queued).legs.map Leg.amount = [10000] ∧ NoForceClose (paying .queued) (payingOut .queued)
    ∧ (paying .queued).tables.kind 1 = some ⟨.cashOut, true, true, false, true, 1⟩ ∧ isDrawer 16 = true ∧ isStation 7 = true :=
  ⟨⟨_, head_withBlock _ _ _ _ rfl⟩, by decide +kernel, by decide +kernel, rfl, .inl (by decide), by decide +kernel, rfl, rfl⟩

/-- A passbook line stored and one not recorded, with room for its entry; and a SIGN-ON's teller ID. -/
theorem test_meets_ApprovedReplyCompletes_lines :
    ((paying .sent).lineArrives { lineIn with reference := text "000000000104" }).2 = .stored
    ∧ ((paying .sent).lineArrives { lineIn with amount := 100000000000 }).2 = .notRecorded
    ∧ roomInUse (paying .sent).journal (paying .sent).router + 1 < Config.journalCapacity
    ∧ (readReply [1, 0, 0, 0, 0, 1, 1, 4, 65, 78, 78, 65, 0, 0]).bind replyTeller = some (text "ANNA") := by decide +kernel

theorem test_meets_RequestsEndUnposted :
    waiting.router.entry ⟨7, 41⟩ = some enquiryEntry ∧ enquiryEntry.timer ≠ none ∧ enquiryEntry.journalSeq = none
    ∧ (paying .sent).router.entry ⟨7, 41⟩ = some (payingOut .sent) ∧ (payingOut .sent).timer ≠ none
    ∧ outLegs (payingOut .sent).legs ≠ [] ∧ (paying .queued).router.entry ⟨7, 41⟩ = some (payingOut .queued)
    ∧ ((paying .queued).uplink.withdraw .request (tagField ⟨7, 41⟩)).2 = true
    ∧ NoForceClose (paying .sent) (payingOut .sent) :=
  ⟨by decide +kernel, by decide, rfl, by decide +kernel, by decide, by decide, by decide +kernel, by decide +kernel,
    .inl (by decide)⟩

/-- A reply that declines, one with other amounts, and a SIGN-ON approved without a teller ID. -/
theorem test_meets_RequestsEndUnposted_replies :
    (readReply (replyBytes 2 5 [] [0])).map (fun r => (r.approved, r.reason)) = some (false, some 5)
    ∧ (readReply (replyBytes 1 0 [10001] [0])).map (fun r => decide (r.amounts ≠ (payingOut .sent).legs.map Leg.amount)) = some true
    ∧ (readReply approval).bind replyTeller = none
    ∧ (paying .sent).router.entry (tagOf (7 * 256 + 41)) = some (payingOut .sent)
    ∧ (∃ b, HeadBlock (withBlock .reply (7 * 256 + 41) (replyBytes 2 5 [] [0]) (paying .sent)) .reply b) :=
  ⟨by decide +kernel, by decide +kernel, by decide +kernel, by decide +kernel, ⟨_, head_withBlock _ _ _ _ rfl⟩⟩

/-- The unanswered record of station 7's entry. -/
def unansweredRouter : Router := { Router.cold with unanswered := put Router.cold.unanswered 6 (some (payingOut .sent).unanswered) }

/-- A late reply that approves amounts, with the unanswered record it matches and without one; one that is not journaled; a full
journal; a malformed reply. -/
theorem test_meets_RequestsEndUnposted_late :
    (readReply (replyBytes 1 0 [10000] [0])).map (fun r => (r.approved, decide (r.amounts ≠ []))) = some (true, true)
    ∧ (inDay .opened up).router.entry (tagOf (7 * 256 + 41)) = none ∧ isStation (tagOf (7 * 256 + 41)).station = true
    ∧ look unansweredRouter.unanswered ((tagOf (7 * 256 + 41)).station - 1) = some (payingOut .sent).unanswered
    ∧ (payingOut .sent).unanswered.tag = tagOf (7 * 256 + 41)
    ∧ look up.router.unanswered ((tagOf (7 * 256 + 41)).station - 1) = none
    ∧ (inDay .opened up).day.state = .opened ∧ up.day.state = .noDay
    ∧ roomInUse up.journal up.router < Config.journalCapacity
    ∧ Config.journalCapacity ≤ roomInUse { Journal.cold with entries := List.replicate 16384 (JEntry.ofKind .restart) } up.router
    ∧ readReply [] = none := by decide +kernel

/-- The day OPEN, one entry UNFORWARDED. -/
def forwarding : State := { inDay .opened up with journal := oneEntry }

theorem test_meets_ForwarderCarriesEntry :
    forwarding.journal.Sound ∧ forwarding.uplink.link = .up ∧ forwarding.day.state = .opened
    ∧ forwarding.router.forwardEntries = [] ∧ forwarding.uplink.data.length < Config.dataCapacity
    ∧ (forwarding.journal.entries.filter fun y => y.forward = .unforwarded && !forwarding.router.setAside.contains y.sequence)
        = [{ JEntry.ofKind .transaction with forward := .unforwarded, sequence := 1, time := 5 }] := by
  refine ⟨⟨rfl, by decide +kernel, rfl⟩, ?_⟩
  decide +kernel

/-- The forward entry that carries that journal entry. -/
def forwardEntry : OutEntry :=
  { enquiryEntry with tag := ⟨0, 0⟩, station := 0, state := .queued, journalSeq := some 1 }

def forwardingOut : State := { forwarding with router := { forwarding.router with table := [forwardEntry] } }

theorem test_meets_ForwarderCarriesEntry_ends :
    forwardingOut.router.entry (tagOf 0) = some forwardEntry ∧ forwardEntry.journalSeq = some 1 ∧ forwardEntry.timer ≠ none
    ∧ (∃ y ∈ forwardingOut.journal.entries, y.sequence = 1 ∧ y.forward = .unforwarded)
    ∧ (readReply approval).map Reply.line = some none
    ∧ (readReply (replyBytes 2 5 [] [0])).map (fun r => (r.approved, r.line)) = some (false, none)
    ∧ (∃ b, HeadBlock (withBlock .reply 0 approval forwardingOut) .reply b)
    ∧ (inDay .closing forwardingOut).day.state = .closing :=
  ⟨by decide +kernel, rfl, by decide, by decide +kernel, by decide +kernel, by decide +kernel, ⟨_, head_withBlock _ _ _ _ rfl⟩, rfl⟩

/-- A stand-in approval in the journal, of station 7 at drawer 16. -/
def standInEntry (sequence : Nat) : JEntry :=
  { JEntry.ofKind .transaction with
    sequence, time := 5, station := some 7, teller := some (text "ANNA"), drawer := some 16, txKind := some 1, result := some .standIn
    legs := [⟨0, .cashOut, 10000, 10000, some ⟨10000, 1000000⟩, false⟩], forward := .unforwarded }

/-- Six stand-in approvals UNFORWARDED in CLOSING, the first carried already. -/
def forwardingMany : State :=
  { inDay .closing forwardingOut with
    journal := { forwarding.journal with entries := (List.range' 1 6).map standInEntry, counter := 6, unforwarded := 6 } }

/-- Three places for forward entries and five entries to carry; with 14 blocks in the data queue, two places. -/
theorem test_meets_ForwarderCarriesEntry_many :
    forwardingMany.journal.Sound ∧ forwardingMany.uplink.link = .up ∧ forwardingMany.day.state = .closing
    ∧ forwardingMany.router.forwardEntries.length = 1 ∧ forwardingMany.uplink.data = []
    ∧ ((after .forwarderOffer forwardingMany).router.table.map OutEntry.journalSeq) = [some 1, some 2, some 3, some 4]
    ∧ ((after .forwarderOffer { forwardingMany with uplink := { forwardingMany.uplink with
        data := List.replicate 14 ⟨.eodSeg, 1, []⟩ } }).router.table.map OutEntry.journalSeq) = [some 1, some 2, some 3] := by
  refine ⟨⟨rfl, by decide +kernel, rfl⟩, ?_⟩
  decide +kernel

/-- A reply to the forward entry that carries a passbook line: one handed on and stored, one not recorded, and one that declines. -/
theorem test_meets_ForwarderCarriesEntry_lines :
    let s := { (paying .sent) with router := { (paying .sent).router with table := [forwardEntry] } }
    s.router.entry (tagOf 0) = some forwardEntry ∧ (s.tables.kind forwardEntry.kind).any KindEntry.passbook = true
    ∧ (forwardingOut.tables.kind forwardEntry.kind).any KindEntry.passbook = false
    ∧ (readReply (replyBytes 1 0 [10000] (replyLine 1000))).map (fun r => (r.approved, r.line.isSome)) = some (true, true)
    ∧ (readReply (replyBytes 2 5 [] (replyLine 1000))).map (fun r => (r.approved, r.line.isSome)) = some (false, true)
    ∧ (s.lineArrives { lineIn with reference := text "000000000104" }).2 = .stored
    ∧ (s.lineArrives { lineIn with amount := 100000000000 }).2 = .notRecorded
    ∧ (∃ b, HeadBlock (withBlock .reply 0 approval s) .reply b) :=
  ⟨by decide +kernel, by decide +kernel, by decide +kernel, by decide +kernel, by decide +kernel, by decide +kernel, by decide +kernel,
    ⟨_, head_withBlock _ _ _ _ rfl⟩⟩

/-- The link lost with an entry SENT and one QUEUED, a forward entry, and in CLOSING with the drawer of the entry close-pending and left
free. -/
theorem test_meets_CarrierLossTakesLinkDown_entries :
    (paying .sent).uplink.link ≠ .down ∧ (paying .sent).router.stationEntries = [payingOut .sent]
    ∧ (payingOut .sent).lostInDoubt = true ∧ (payingOut .queued).lostInDoubt = false
    ∧ forwardingOut.router.stationEntries = [] ∧ forwardingOut.uplink.link = .up
    ∧ (let s := inDay .closing { paying .sent with drawers := put (paying .sent).drawers 16 { (paying .sent).drawer 16 with isOpen := true } }
      let s : State := { s with day := { s.day with closePending := [16] } }
      s.freedByLoss 16 ∧ ¬ s.freedByLoss 0) := by
  refine ⟨by decide +kernel, by decide +kernel, by decide +kernel, by decide +kernel, by decide +kernel, by decide +kernel, ?_⟩
  unfold State.freedByLoss
  exact ⟨⟨by decide +kernel, by decide +kernel, by decide +kernel, by decide +kernel, payingOut .sent, by decide +kernel, by decide +kernel⟩,
    fun h => absurd h.2.1 (by decide +kernel)⟩

theorem test_meets_BulletinIsShown :
    (∃ b, HeadBlock (withBlock .bulletin 0 (List.replicate 80 65) up) .bulletin b ∧ b.body.length = 80)
    ∧ (∃ b, HeadBlock (withBlock .bulletin 0 (List.replicate 81 65) up) .bulletin b ∧ 80 < b.body.length)
    ∧ (∃ b, HeadBlock (withBlock .bulletin 0 [] up) .bulletin b ∧ b.body.length = 0)
    ∧ ((visited signed up).station 7).state = .signed :=
  ⟨⟨_, head_withBlock _ _ _ _ rfl, by decide⟩, ⟨_, head_withBlock _ _ _ _ rfl, by decide⟩, ⟨_, head_withBlock _ _ _ _ rfl, rfl⟩,
    by decide +kernel⟩

/-- A SIGNED station that holds a BULLETIN alert already, one whose queue of four holds none, and a station that is not SIGNED. -/
theorem test_meets_BulletinIsShown_queues :
    ((visited signed (up.giveAlert 7 ⟨.bulletin, 6⟩)).screen 7).alerts = [⟨.bulletin, 6⟩]
    ∧ ((visited signed (((up.giveAlert 7 ⟨.drawerHigh, 6⟩).giveAlert 7 ⟨.turnPage, 3⟩).giveAlert 7 ⟨.refused, 1⟩ |>.giveAlert 7
        ⟨.printerBusy, 1⟩)).screen 7).alerts = [⟨.drawerHigh, 6⟩, ⟨.turnPage, 3⟩, ⟨.refused, 1⟩, ⟨.printerBusy, 1⟩]
    ∧ ((visited signed up).station 8).state ≠ .signed := by decide +kernel

/-! ### Printer ports -/

/-- Port 1 in a dialogue state, carrying an order of the Passbook Line Manager. -/
def inDialogue (d : Dialogue) : State :=
  withPort { quietPort with
    state := .busy, dialogue := d, claimed := true, order := some (Order.plain .readStripe), attempts := 5
    selectTimer := some 0, stepTimer := some 0, retryTimer := some 0 } up

/-- Port 1 IDLE in a poll. -/
def polling (d : Dialogue) : State :=
  withPort { quietPort with
    state := .idle, dialogue := d, poll := true, order := some (Order.plain .statusRequest), attempts := 1
    selectTimer := some 0, stepTimer := some 0, pollTimer := some 0 } up

theorem test_meets_PortDialogues_phases :
    isPort 1 = true ∧ ((inDialogue .selecting).port 1).dialogue = .selecting
    ∧ ((inDialogue .waiting).port 1).dialogue.attended = true ∧ phaseOf 5 = some .closeIn ∧ phaseOf 1 = some .orderOut
    ∧ ((inDialogue .retryWait).port 1).dialogue.attended = false := by decide +kernel

theorem test_meets_PortDialogues_bytes :
    ((inDialogue .orderOut).port 1).dialogue = .orderOut ∧ ((inDialogue .dataOut).port 1).dialogue = .dataOut
    ∧ ((inDialogue .dataIn).port 1).dialogue = .dataIn ∧ ((inDialogue .stateIn).port 1).dialogue = .stateIn
    ∧ ((inDialogue .closeIn).port 1).attempts < 6 ∧ ((inDialogue .closeIn).port 1).poll = false
    ∧ ((inDialogue .closeIn).port 1).sensing = false
    ∧ ((withPort { quietPort with dialogue := .closeIn, status := some 0x08 } up).port 1).status = some 0x08
    ∧ ((inDialogue .none).port 1).dialogue = .none := by decide +kernel

/-- A poll at port 1 about to close, the status byte and the return taken. -/
def pollClosing (state : PortState) (bookSeen : Bool) (status : Byte) (returned : List Byte) : State :=
  withPort { quietPort with
    state, dialogue := .closeIn, poll := true, order := some (Order.plain .statusRequest), attempts := 1, bookSeen
    status := some status, returned } up

/-- CHECK begins the SENSE; a poll that closes GOOD, ready or not, with a book and without. -/
theorem test_meets_PortDialogues_closes :
    ((pollClosing .idle false 0x02 []).port 1).status = some 0x02 ∧ ((pollClosing .idle false 0x02 []).port 1).sensing = false
    ∧ ((pollClosing .notReady false 0x00 [0]).port 1).state = .notReady ∧ ((pollClosing .idle false 0x00 [1]).port 1).poll = true
    ∧ ((pollClosing .idle false 0x00 [1]).port 1).order.map Order.kind = some .statusRequest
    ∧ readStatusRecord [0] = some ⟨false, false, false⟩ ∧ readStatusRecord [1] = some ⟨true, false, false⟩
    ∧ readStatusRecord [2] = some ⟨false, true, false⟩ ∧ readStatusRecord [4] = some ⟨false, false, true⟩
    ∧ StatusRec.ready ⟨true, false, false⟩ = true ∧ StatusRec.ready ⟨false, true, false⟩ = false
    ∧ ((pollClosing .attention true 0x00 [1]).port 1).bookSeen = true ∧ ((pollClosing .idle false 0x00 [1]).port 1).overlong = false
    ∧ (pollClosing .idle false 0x00 [1]).job 1 = none ∧ (inDay .opened (pollClosing .idle false 0x00 [1])).day.state = .opened := by
  decide +kernel

/-- What aborts the poll of an IDLE port: a code of no phase, a status byte that is none of the three, no status byte, a return that does
not fit, and a SENSE that closes CHECK. -/
theorem test_meets_PortDialogues_aborts :
    DialogueAborts (polling .waiting) 1 (.phaseRequest 1 7) ∧ DialogueAborts (polling .stateIn) 1 (.byteRequest 1 1)
    ∧ DialogueAborts (polling .closeIn) 1 (.byteRequest 1 0) ∧ DialogueAborts (pollClosing .idle false 0x00 [8]) 1 (.byteRequest 1 0)
    ∧ DialogueAborts (withPort { quietPort with dialogue := .closeIn, status := some 0x02, sensing := true, state := .idle, poll := true } up)
        1 (.byteRequest 1 0)
    ∧ ((polling .waiting).port 1).state = .idle ∧ ((polling .waiting).port 1).poll = true := by
  refine ⟨.inl ⟨7, rfl, by decide, by decide +kernel⟩, .inr ⟨1, rfl, .inl (by decide +kernel)⟩, ?_, ?_, ?_, by decide +kernel⟩
  · exact .inr ⟨0, rfl, .inr ⟨by decide +kernel, .inl (by decide +kernel)⟩⟩
  · exact .inr ⟨0, rfl, .inr ⟨by decide +kernel, .inr (.inl (by decide +kernel))⟩⟩
  · exact .inr ⟨0, rfl, .inr ⟨by decide +kernel, .inr (.inr (by decide +kernel))⟩⟩

/-- A job at port 1. -/
def withJob (st : JobState) (s : State) : State := s.setJob 1 (some (Job.fresh st))

theorem test_meets_DialogueTimersExpire :
    ((polling .selecting).port 1).poll = true ∧ ((polling .selecting).port 1).state = .idle
    ∧ ((polling .selecting).port 1).selectTimer ≠ none ∧ ((polling .selecting).port 1).pulseTimer = none
    ∧ ((polling .waiting).port 1).dialogue.attended = true ∧ ((polling .waiting).port 1).stepTimer ≠ none
    ∧ ((withJob .reading (inDialogue .selecting)).job 1).map Job.state = some .reading
    ∧ ((inDialogue .selecting).port 1).claimed = true
    ∧ (((inDialogue .selecting).port 1).order.map Order.kind) = some .readStripe
    ∧ ((withPort { quietPort with state := .notReady, readyTimer := some 0 } up).port 1).readyTimer ≠ none := by decide +kernel

theorem test_meets_DialogueTimersBegin :
    (State.reset.port 1).pulseTimer ≠ none ∧ (State.reset.port 1).due = false
    ∧ ((withPort { Port.cold with due := true } up).port 1).due = true
    ∧ ((inDialogue .retryWait).port 1).retryTimer ≠ none ∧ ((inDialogue .retryWait).port 1).pulseTimer = none
    ∧ ((polling .none).port 1).pollTimer ≠ none := by decide +kernel

/-- Port 1 claimed, the dialogue of an order about to close GOOD with a return, or ending BUSY or its SENSE. -/
def orderClosing (o : Order) (status : Byte) (sensing : Bool) (returned : List Byte) : State :=
  withPort { quietPort with
    state := .busy, dialogue := .closeIn, claimed := true, order := some o, attempts := 6, senseAttempts := 1, sensing
    status := some status, returned, loaded := some 2 } (inDay .opened (withLayout oneLineStored))

/-- The stripe of the stored account, at a page and a line, and the state with a job holding it. -/
def stripeAt (page u : Nat) : Stripe :=
  let r : Stripe := ⟨text "004512367890", 2, text "000731", page, u, 0⟩
  { r with check := checkDigit r }

def jobOf (st : JobState) (r : Stripe) : Job := { Job.fresh st with stripe := some r, page := r.page, u := r.u }

/-- READ STRIPE: GOOD with a stripe that passes, with one that does not, and while the day is not open; unreadable; the sixth BUSY;
no answer; aborted. -/
theorem test_meets_PrintJobsGoOn_stripe :
    let back := encStripe (stripeAt 4 1) ++ [4]
    let closing := orderClosing (Order.plain .readStripe) 0x00 false back
    OrderEnds closing 1 (.byteRequest 1 0) .readStripe (.good back)
    ∧ readStripeReturn back = some (stripeAt 4 1, 4)
    ∧ (closing.setJob 1 (some (Job.fresh .reading))).judgeStripe 1 (stripeAt 4 1) 4 = none
    ∧ (closing.setJob 1 (some (Job.fresh .reading))).judgeStripe 1 (stripeAt 4 1) 5 = some ⟨.openPage, 4⟩
    ∧ closing.tables.layout 2 = some oneLayout ∧ (closing.setJob 1 (some (Job.fresh .reading))).job 1 = some (Job.fresh .reading)
    ∧ OrderEnds (inDay .closed closing) 1 (.byteRequest 1 0) .readStripe (.good back)
    ∧ OrderEnds (orderClosing (Order.plain .readStripe) 0x00 true [2, 0]) 1 (.byteRequest 1 0) .readStripe (.check ⟨.stripeUnreadable, 0⟩)
    ∧ OrderEnds (orderClosing (Order.plain .readStripe) 0x08 false []) 1 (.byteRequest 1 0) .readStripe .busyLimit
    ∧ OrderEnds (inDialogue .selecting) 1 (.selectTimer 1) .readStripe .noAnswer
    ∧ OrderEnds (inDialogue .waiting) 1 (.phaseStepTimer 1) .readStripe .aborted
    ∧ OrderEnds (inDialogue .waiting) 1 (.phaseRequest 1 7) .readStripe .aborted := by
  refine ⟨?_, by decide +kernel, by decide +kernel, by decide +kernel, by decide +kernel, by decide +kernel, ?_, ?_, ?_, ?_, ?_, ?_⟩
  all_goals refine ⟨by decide +kernel, by decide +kernel, by decide +kernel, by decide +kernel, ?_⟩
  · exact .inr (.inr (.inr ⟨0, rfl, by decide +kernel, .inl (by decide +kernel)⟩))
  · exact .inr (.inr (.inr ⟨0, rfl, by decide +kernel, .inl (by decide +kernel)⟩))
  · exact .inr (.inr (.inr ⟨0, rfl, by decide +kernel,
      .inr (.inl ⟨by decide +kernel, by decide +kernel, by decide +kernel, _, by decide +kernel, rfl⟩)⟩))
  · exact .inr (.inr (.inr ⟨0, rfl, by decide +kernel, .inr (.inr (by decide +kernel))⟩))
  · exact .inl ⟨rfl, by decide +kernel, by decide +kernel, rfl⟩
  · exact .inr (.inl ⟨rfl, by decide +kernel, by decide +kernel, rfl⟩)
  · exact .inr (.inr (.inl ⟨.inl ⟨7, rfl, by decide, by decide +kernel⟩, rfl⟩))

/-- PRINT LINE: the last line of the account, one with another behind it in the middle of a page, at the end of one, and at the end of the
book; a stripe not written; a frozen day. -/
theorem test_meets_PrintJobsGoOn_line :
    let s := orderClosing (Order.make .printLine 0 [2] []) 0x00 false []
    let printing (page u : Nat) : Job := { jobOf .printing (stripeAt page u) with inPrint := some (text "000000000101") }
    OrderEnds s 1 (.byteRequest 1 0) .printLine (.good [])
    ∧ (s.passbook.removeLine (text "004512367890") (text "000000000101")).linesOf (text "004512367890") = []
    ∧ (twoLinesStored.passbook.removeLine (text "004512367890") (text "000000000101")).linesOf (text "004512367890") ≠ []
    ∧ (printing 4 1).stripe = some (stripeAt 4 1) ∧ (printing 4 1).u + 1 ≠ oneLayout.usableCount
    ∧ (printing 4 5).u + 1 = oneLayout.usableCount ∧ (printing 4 5).page ≠ oneLayout.pagesPerBook
    ∧ (printing 10 5).page = oneLayout.pagesPerBook
    ∧ OrderEnds (orderClosing (Order.make .printLine 0 [2] []) 0x00 true [3, 0]) 1 (.byteRequest 1 0) .printLine
        (.check ⟨.stripeWriteFailed, 0⟩)
    ∧ OrderEnds (orderClosing (Order.make .printLine 0 [2] []) 0x08 false []) 1 (.byteRequest 1 0) .printLine .busyLimit
    ∧ (inDay .sent s).day.state.frozen = true ∧ OrderEnds (inDay .sent s) 1 (.byteRequest 1 0) .printLine (.good []) := by
  refine ⟨?_, by decide +kernel, by decide +kernel, by decide +kernel, by decide +kernel, by decide +kernel, by decide +kernel,
    by decide +kernel, ?_, ?_, by decide +kernel, ?_⟩
  all_goals refine ⟨by decide +kernel, by decide +kernel, by decide +kernel, by decide +kernel, .inr (.inr (.inr ⟨0, rfl, by decide +kernel, ?_⟩))⟩
  · exact .inl (by decide +kernel)
  · exact .inr (.inl ⟨by decide +kernel, by decide +kernel, by decide +kernel, _, by decide +kernel, rfl⟩)
  · exact .inr (.inr (by decide +kernel))
  · exact .inl (by decide +kernel)

/-- SET LAYOUT and EJECT, GOOD and failing; a job that waits for its book and one that does not. -/
theorem test_meets_PrintJobsGoOn :
    OrderEnds (orderClosing (Order.make .setLayout 2 [] []) 0x00 false []) 1 (.byteRequest 1 0) .setLayout (.good [])
    ∧ OrderEnds (orderClosing (Order.plain .eject) 0x00 false []) 1 (.byteRequest 1 0) .eject (.good [])
    ∧ OrderEnds (orderClosing (Order.plain .eject) 0x08 false []) 1 (.byteRequest 1 0) .eject .busyLimit
    ∧ (jobOf .turnWait (stripeAt 4 6)).state = .turnWait ∧ (jobOf .ending (stripeAt 4 6)).failed = false
    ∧ (jobOf .printing (stripeAt 4 1)).stripe = some (stripeAt 4 1) := by
  refine ⟨?_, ?_, ?_, rfl, rfl, rfl⟩
  all_goals refine ⟨by decide +kernel, by decide +kernel, by decide +kernel, by decide +kernel, .inr (.inr (.inr ⟨0, rfl, by decide +kernel, ?_⟩))⟩
  · exact .inl (by decide +kernel)
  · exact .inl (by decide +kernel)
  · exact .inr (.inr (by decide +kernel))

/-! ### The business day -/

/-- CLOSING with drawer 16 still to close. -/
def closing : State := { up with day := { up.day with state := .closing, closePending := [16] } }

/-- Room in the journal and none, a drawer that is not close-pending, a freeze with and without a drawer to close, and one whose condition
fails: an entry outstanding, and an UNFORWARDED entry with the link UP. -/
theorem test_meets_ForceCloseAndFreeze :
    closing.day.state = .closing ∧ 16 ∈ closing.day.closePending ∧ (closing.drawer 16).hasReserved = false
    ∧ roomInUse closing.journal closing.router < Config.journalCapacity
    ∧ Config.journalCapacity - roomInUse { Journal.cold with entries := List.replicate 16384 (JEntry.ofKind .restart) } up.router = 0
    ∧ 0 ∉ closing.day.closePending
    ∧ closing.router.table = [] ∧ (inDay .closing up).router.table = [] ∧ (inDay .closing up).day.closePending = []
    ∧ (∀ e ∈ closing.journal.entries, e.forward = .unforwarded → e.sequence ∈ closing.router.setAside)
    ∧ (inDay .closing waiting).router.table ≠ [] ∧ (inDay .closing forwarding).uplink.link = .up
    ∧ (∃ e ∈ (inDay .closing forwarding).journal.entries,
        e.forward = .unforwarded ∧ e.sequence ∉ (inDay .closing forwarding).router.setAside)
    ∧ up.day.state ≠ .closing := by decide +kernel

/-- A day being sent: N = 9, base 3, pointer 5, highest sent 4. -/
def sendingDay : State :=
  { up with day := { up.day with
      state := .sending, freeze := some { (default : FreezeDesc) with segments := 9 }, base := 3, pointer := 5, highest := 4
      timer := some 0, retries := 7 } }

theorem test_meets_SendingBeginsAndOffers :
    (inDay .closed up).day.state = .closed ∧ up.uplink.link = .up ∧ up.day.state ≠ .closed
    ∧ sendingDay.day.freeze = some { (default : FreezeDesc) with segments := 9 }
    ∧ sendingDay.uplink.data.length + 4 ≤ Config.dataCapacity ∧ sendingDay.day.base ≤ sendingDay.day.pointer := by decide +kernel

theorem test_meets_EodAckMovesBase :
    (∃ b, HeadBlock (withBlock .eodAck 3 [0] sendingDay) .eodAck b ∧ sendingDay.day.base ≤ b.tag ∧ b.tag ≤ sendingDay.day.highest
      ∧ b.tag < sendingDay.day.segments ∧ b.body = [0])
    ∧ (∃ b, HeadBlock (withBlock .eodAck 9 [1] { sendingDay with day := { sendingDay.day with highest := 9, pointer := 10 } })
        .eodAck b ∧ b.tag = sendingDay.day.segments ∧ b.body = [1])
    ∧ (∃ b, HeadBlock (withBlock .eodAck 2 [0] sendingDay) .eodAck b ∧ ¬ sendingDay.day.base ≤ b.tag) :=
  ⟨⟨_, head_withBlock _ _ _ _ rfl, by decide, by decide, by decide, rfl⟩, ⟨_, head_withBlock _ _ _ _ rfl, by decide, rfl⟩,
    ⟨_, head_withBlock _ _ _ _ rfl, by decide⟩⟩

theorem test_meets_EodNakGoesBack :
    (∃ b, HeadBlock (withBlock .eodNak 4 [] sendingDay) .eodNak b ∧ sendingDay.day.base ≤ b.tag ∧ b.tag ≤ sendingDay.day.highest
      ∧ b.body = [])
    ∧ (∃ b, HeadBlock (withBlock .eodNak 5 [] sendingDay) .eodNak b ∧ ¬ b.tag ≤ sendingDay.day.highest) :=
  ⟨⟨_, head_withBlock _ _ _ _ rfl, by decide, by decide, rfl⟩, ⟨_, head_withBlock _ _ _ _ rfl, by decide⟩⟩

theorem test_meets_AckTimerRetries :
    sendingDay.day.state = .sending ∧ sendingDay.day.timer ≠ none ∧ sendingDay.day.retries + 1 = 8
    ∧ ({ sendingDay.day with retries := 6 } : Day).retries + 1 ≠ 8 := by decide

/-! ### Management -/

/-- A command waiting on a state with nothing owed. -/
theorem waits (tag : Nat) (body : List Byte) (s : State) (h : s.uplink.link = .up) (h' : s.responsesOwed ≤ 2)
    (h'' : s.mgmt.inFlight = none) : CommandAtHead (withBlock .mgmtCmd tag body s) tag body :=
  ⟨⟨_, head_withBlock _ _ _ _ h, rfl, rfl⟩, h', h''⟩

/-- In UP with nothing owed every command may be taken; with two responses owed too. -/
theorem test_meets_CommandAtHead :
    (∀ tag body, CommandAtHead (cmd tag body) tag body)
    ∧ ∀ tag body, CommandAtHead
        (withBlock .mgmtCmd tag body (queued [⟨.mgmtResp, 1, []⟩, ⟨.mgmtResp, 2, []⟩] [] up)) tag body :=
  ⟨fun _ _ => waits _ _ _ rfl (by decide) rfl, fun _ _ => waits _ _ _ rfl (by decide) rfl⟩

/-- A format of one entry. -/
def oneLine : Format :=
  Format.make 4 [{ kind := .literal, row := 0, column := 2, length := 16, attr := 3, source := .literal (text "BALANCE"), currency := none }]

theorem test_meets_LoadsOfFormatsAndLayouts :
    kindEntryOk enquiry = true ∧ (∀ x ∈ up.router.table, x.kind ≠ 64)
    ∧ formatOk oneLine = true ∧ oneLine.entries.all FieldEntry.sourced = true ∧ oneLine = Format.make oneLine.origin oneLine.entries
    ∧ (up.screen 24).format ≠ some 96 ∧ ((up.onScreen 24 fun sc => { sc with format := some 96 }).screen 24).format = some 96
    ∧ (up.tables.station 1).bank ≠ 3 ∧ (up.tables.station 1).bank = 0
    ∧ layoutOk oneLayout = true ∧ up.day.state.frozen = false ∧ up.jobHolds (fun r => r.bookType = 7) = false := by decide +kernel

/-- A layout load, an empty one among them, with an account over its threshold of 20 and one within it, neither with a line in print. -/
theorem test_meets_LoadsOfFormatsAndLayouts_over :
    (storedLines 21 20).jobHolds (fun r => r.bookType = 2) = false ∧ (storedLines 21 20).day.state.frozen = false
    ∧ oneLayout.limit = 20 ∧ look (storedLines 21 20).passbook.slots 0 = some ⟨text "004512367890", 2, manyLines 21⟩
    ∧ look (storedLines 21 20).passbook.slots 1 = some ⟨text "004512367891", 2, manyLines 20⟩
    ∧ (manyLines 21).length = 21 ∧ (manyLines 20).length = 20 ∧ (∀ m ∈ (manyLines 21).drop 1, m.inPrint = false)
    ∧ encEntry (none : Option (List Byte)) = [1] ∧ ∀ content, encEntry (some content) = 0 :: content :=
  ⟨by decide +kernel, rfl, rfl, by rw [storedLines_slot]; rfl, by rw [storedLines_slot]; rfl, by decide, by decide,
    by decide +kernel, rfl, fun _ => rfl⟩

theorem test_meets_LoadsOfStationsAndParameters :
    stationEntryOk ⟨.teller, some 16, 3, some 8⟩ = true ∧ up.router.hasEntry 24 = false ∧ (up.station 24).state ≠ .test
    ∧ (up.tables.station 24).bank ≠ 3 ∧ up.tables.station 24 = ⟨.teller, none, 0, none⟩
    ∧ paramsOk { defaultParams with branch := 65535, enables := 0x81 } = true
    ∧ bitSet (0x81 : Byte) 7 = true ∧ bitSet up.params.enables 7 = false ∧ (up.port 8).state = .disabled
    ∧ bitSet ({ up.params with enables := 0x01 } : BranchParams).enables 0 = true ∧ bitSet (0 : Byte) 0 = false := by
  decide +kernel

theorem test_meets_LoadsOfMoneyTables :
    currencyOk ⟨text "QXB", 2, 100⟩ = true ∧ up.tables.currencyFits 0 ⟨text "QXB", 2, 100⟩ = true
    ∧ up.currencyLoadInUse 0 = false ∧ denomsOk [⟨100000000, .note⟩] = true ∧ ((withCurrency up).tables.currency 0).isSome = true
    ∧ (11 : Nat) ≠ 0 ∧ (withCurrency up).currencyLoadInUse 11 = false
    ∧ (withCurrency up).currencyInUse 0 = false ∧ rateOk 0 1000000 = true ∧ rateOk 11 999999999999 = true
    ∧ limitsOk ⟨500000, 4000000, 5000000, 200000⟩ = true := by decide +kernel

theorem test_meets_ReadsReturnWhatStands :
    1 ∈ tableEntries 1 ∧ 7 ∈ tableEntries 10 ∧ Area.itemInRange .drawerCurrency 16 11 = true
    ∧ Area.itemStray .drawerCurrency 16 11 = false ∧ Area.itemInRange .management 0 0 = true
    ∧ Area.itemStray .management 0 0 = false ∧ Area.itemInRange .port 8 0 = true ∧ Area.itemStray .port 8 0 = false := by
  decide +kernel

theorem test_meets_HoldAndTestMoveStations :
    2 ^ 23 ≠ 0 ∧ 2 ^ 24 - 1 < 2 ^ 24 ∧ (2 ^ 23).testBit (24 - 1) = true
    ∧ ((visited signed up).station 7).state ≠ .held ∧ ((visited { signed with state := .held } up).station 7).state = .held
    ∧ ((turnOf 7 { signed with state := .test } up).station 7).state = .test := by decide +kernel

theorem test_meets_EnableFlagsMovePorts :
    (up.port 8).state = .disabled ∧ ((polling .none).port 1).state ≠ .disabled ∧ ((polling .none).port 1).state ≠ .failed
    ∧ ((inDialogue .none).port 1).claimed = true := by decide +kernel

/-- The store with its one line in print. -/
def markedStore : Passbook :=
  { up.passbook with
    slots := put up.passbook.slots 0
      (some ⟨text "004512367890", 2, [{ lineIn.toLine with reference := text "000000000101", inPrint := true }]⟩) }

/-- Port 1 unclaimed with a job in TURN WAIT and with one in PRINTING; port 1 claimed with the stored line in print, in an open day and in a
frozen one. -/
theorem test_meets_EnableFlagsMovePorts_job :
    let line : Text × Text := (text "004512367890", text "000000000101")
    let waits := (polling .none).setJob 1 (some (jobOf .turnWait (stripeAt 4 6)))
    let prints (day : DayState) : State :=
      let job : Job := { jobOf .printing (stripeAt 4 1) with inPrint := some line.2 }
      (inDay day { withPort { quietPort with state := .busy, claimed := true } up with passbook := markedStore }).setJob 1 (some job)
    (waits.port 1).claimed = false ∧ waits.job 1 = some (jobOf .turnWait (stripeAt 4 6))
    ∧ ((prints .opened).port 1).claimed = true ∧ (prints .opened).lineInPrint 1 = some line
    ∧ (prints .opened).day.state.frozen = false ∧ (prints .closed).lineInPrint 1 = some line
    ∧ (prints .closed).day.state.frozen = true := by decide +kernel

/-- A store of one account is sound when the account is. -/
theorem sound_of_one (b : Passbook) (x : Account) (hb : b.slots = put (Vector.replicate 512 none) 0 (some x))
    (hc : b.lineCount ≤ Config.storeCapacity)
    (hx : x.lines ≠ [] ∧ (x.lines.map PLine.reference).Nodup ∧ (∀ l ∈ x.lines.drop 1, l.inPrint = false)
      ∧ (x.lines.map fun l => l.amount.natAbs).sum ≤ Config.maxLineAmount) : b.Sound := by
  have slot (i : Nat) (y : Account) (h : look b.slots i = some y) : i = 0 ∧ y = x := by
    rw [hb] at h
    by_cases hi : i = 0
    · subst hi
      rw [look_put_self _ _ _ (by decide)] at h
      cases h; exact ⟨rfl, rfl⟩
    · rw [look_put_other _ _ _ _ (Ne.symm hi), look_replicate] at h
      split at h <;> cases h
  refine ⟨hc, fun i y h => ?_, fun i j y z hne hi hj => ?_⟩
  · obtain ⟨-, rfl⟩ := slot i y h; exact hx
  · exact absurd ((slot i y hi).1.trans (slot j z hj).1.symm) hne

/-- The stores of those states are sound. -/
theorem test_meets_EnableFlagsMovePorts_store :
    oneLineStored.passbook.Sound ∧ markedStore.Sound :=
  ⟨sound_of_one _ _ rfl (by decide +kernel) (by decide +kernel), sound_of_one _ _ rfl (by decide +kernel) (by decide +kernel)⟩

theorem test_meets_ParameterFlags :
    CommandAtHead (cmd 1 ([4, 0] ++ be 5 (2 ^ 32))) 1 ([4, 0] ++ be 5 (2 ^ 32))
    ∧ CommandAtHead (cmd 1 ([5, 0] ++ be 5 (2 ^ 34))) 1 ([5, 0] ++ be 5 (2 ^ 34)) :=
  ⟨test_meets_CommandAtHead.1 _ _, test_meets_CommandAtHead.1 _ _⟩

theorem test_meets_DayCommands :
    (readDate (text "20240229")).isSome = true ∧ (text "20240229").length = 8 ∧ up.day.state = .noDay
    ∧ (inDay .rejected up).day.state = .rejected ∧ (inDay .failed up).day.state = .failed ∧ (inDay .opened up).day.state = .opened
    ∧ (inDay .sent up).day.state = .sent ∧ up.mgmt.inFlight = none ∧ (inDay .sent (inLink .recovery up)).uplink.link ≠ .up := by
  decide +kernel

/-- The stored line settled printed at port 1, and not printed. -/
theorem test_meets_DayCommands_settled :
    let settled (printed : Bool) : Vector (Option Settlement) 8 :=
      put (Vector.replicate 8 none) 0 (some ⟨text "004512367890", text "000000000101", printed⟩)
    look (settled true) (1 - 1) = some ⟨text "004512367890", text "000000000101", true⟩
    ∧ look oneLineStored.passbook.slots 0 = some ⟨text "004512367890", 2, [{ lineIn.toLine with reference := text "000000000101" }]⟩
    ∧ look oneLineStored.passbook.slots 1 = none := by decide +kernel

/-- A refusal of each reason: a state, a command and its fields. -/
theorem test_meets_ClockAndRefusals_tests :
    ([1] : List Byte).length < 2 ∧ CommandRow .setTime 9 [] ∧ CommandRow .unknownCommand 17 [] ∧ CommandRow .loadRates 1 [6, 0, 1]
    ∧ CommandRow .setHold 4 (be 5 1) ∧ CommandRow .rateRestore 5 (be 5 (2 ^ 34)) ∧ CommandRow .unknownCommand 4 (be 5 0)
    ∧ CommandRow .unknownCommand 1 [11, 0, 1] ∧ fieldsLength 9 = some 3 ∧ 11 ∉ tableEntries 10 ∧ 8 ∉ tableEntries 10
    ∧ 7 ∈ tableEntries 10 ∧ 2 ^ 35 ≤ ofBe (be 5 (2 ^ 35)) ∧ ofBe (be 5 0) = 0 ∧ readDate (text "20240231") = none
    ∧ 86399 < ofBe (be 3 86400) ∧ allDigits (text "00451236789A") = false ∧ isStation 25 = false
    ∧ (inDay .closed up).day.state.frozen = true ∧ up.day.state.frozen = false
    ∧ waiting.router.hasEntry 7 = true ∧ (∃ e ∈ waiting.router.table, e.kind = 1) ∧ (echoing.loop.test) ≠ none
    ∧ ((orderClosing (Order.plain .eject) 0x00 false []).setJob 1 (some (jobOf .ending (stripeAt 4 1)))).jobHolds
        (fun r => r.bookType = 2) = true
    ∧ nameIn areaNames 13 = none ∧ Area.itemInRange .drawer 17 0 = false ∧ Area.itemStray .management 0 1 = true
    ∧ nameIn areaNames 5 = some .drawer ∧ Area.itemInRange .drawer 17 1 = false ∧ Area.itemStray .drawer 17 1 = true
    ∧ rateOk 0 1 = false ∧ up.tables.currencyFits 1 ⟨text "QXB", 2, 100⟩ = false
    ∧ readChanges.whole (1 :: 0 :: beInt 4 (-41)) = .ok [⟨0, -41⟩] true []
    ∧ withCash.correctionOk 16 0 [⟨0, -41⟩] = false ∧ withCash.correctionOk 16 0 [⟨0, -1⟩] = true
    ∧ ({ withCash with journal := { Journal.cold with entries := List.replicate 16384 (JEntry.ofKind .restart) } } : State).journalRoom
        = false := by
  refine ⟨by decide, rfl, .inr (.inl (by decide)), ⟨rfl, rfl⟩, ⟨rfl, rfl, 0, by decide, by decide, by decide +kernel⟩,
    ⟨.inr rfl, rfl, 34, by decide, by decide, by decide +kernel⟩, ?_, ?_, ?_⟩
  · refine .inr (.inr (.inr ⟨.inl rfl, fun ⟨_, i, _, _, h⟩ => ?_⟩))
    rw [show ofBe (be 5 0) = 0 by decide +kernel, Nat.zero_testBit] at h
    cases h
  · exact .inr (.inr (.inl ⟨rfl, fun table h => by cases h; exact .inr (by decide)⟩))
  · decide +kernel

/-- A command handed over with a SAVE SETTINGS in flight. -/
theorem test_meets_ClockAndRefusals_busy :
    let s : State := withBlock .mgmtCmd 3 [9, 0] { up with mgmt := { up.mgmt with inFlight := some ⟨10, 2⟩ } }
    CommandHanded s 3 [9, 0] ∧ s.mgmt.inFlight ≠ none ∧ (9 : Byte) ≠ 11 :=
  ⟨⟨⟨_, head_withBlock _ _ _ _ rfl, rfl, rfl⟩, by decide⟩, by decide, by decide⟩

theorem test_meets_ClockAndRefusals :
    lastSecond.mgmt.clockSet = true ∧ lastSecond.mgmt.clock ≤ 86399 ∧ up.mgmt.clockSet = false ∧ 16 < (17 : Byte).toNat := by
  decide

theorem test_meets_HoldAndTestMoveStations_test :
    isStation 24 = true ∧ up.loop.test = none ∧ up.router.hasEntry 24 = false ∧ (List.replicate 8 (0 : Byte)).length = 8
    ∧ echoing.loop.test = some (testRec (.fixed [1, 2, 3, 4, 5, 6, 7, 8])) ∧ (testRec (.fixed [])).station = 7 := by decide +kernel

theorem test_meets_PendingLinesLoadAndClear :
    (Reader.list 1 16 readPendingLine).whole (1 :: lineBytesIn) = .ok [lineIn] true []
    ∧ oneLineStored.passbook.hasReference lineIn.reference = false ∧ oneLineStored.passbook.accepts lineIn = true
    ∧ oneLineStored.passbook.find lineIn.account
        = some (0, ⟨text "004512367890", 2, [{ lineIn.toLine with reference := text "000000000101" }]⟩)
    ∧ oneLineStored.passbook.lineCount < Config.storeCapacity ∧ 1 < oneLineStored.tables.threshold 2
    ∧ allDigits (text "004512367890") = true ∧ (text "004512367890").length = 12
    ∧ oneLineStored.jobHolds (fun r => r.account = text "004512367890") = false ∧ oneLineStored.day.state.frozen = false := by
  decide +kernel

/-- A duplicate, a line that cannot be recorded, a new account, and an account at its threshold. -/
theorem test_meets_PendingLinesLoadAndClear_arrivals :
    (oneLineStored.passbook.hasReference (text "000000000101") = true)
    ∧ up.passbook.CannotRecord { lineIn with amount := 100000000000 }
    ∧ up.passbook.hasReference lineIn.reference = false ∧ up.passbook.find lineIn.account = none
    ∧ up.passbook.LowestFree 0 ∧ ¬ up.passbook.CannotRecord lineIn
    ∧ (storedLines 20 0).passbook.find lineIn.account = some (0, ⟨lineIn.account, 2, manyLines 20⟩)
    ∧ (∀ m ∈ (manyLines 20).drop 1, m.inPrint = false) ∧ up.tables.threshold 2 = 20
    ∧ roomInUse up.journal up.router < Config.journalCapacity := by
  refine ⟨by decide +kernel, .inl (by decide), by decide +kernel, by decide +kernel, ⟨by decide, by decide +kernel, by simp⟩, ?_,
    by decide +kernel, by decide +kernel, by decide +kernel, by decide +kernel⟩
  rintro (h | h | ⟨i, x, h, -⟩ | ⟨-, h⟩)
  · revert h; decide
  · revert h; decide
  · rw [show up.passbook.find lineIn.account = none by decide +kernel] at h; cases h
  · exact h 0 (by decide) (by decide +kernel)

/-- A full store with slot 1 the fullest. -/
theorem storedLines_fullest (m n : Nat) (h : m < n) : (storedLines m n).passbook.Fullest 1 ⟨text "004512367891", 2, manyLines n⟩ := by
  refine ⟨by rw [storedLines_slot]; rfl, fun j y hy => ?_⟩
  rw [storedLines_slot] at hy
  split at hy
  · cases hy; simp [manyLines]; omega
  · split at hy
    · cases hy; simp [manyLines]; omega
    · cases hy

/-- None of its lines is in print. -/
theorem storedLines_unmarked (m n i : Nat) (x : Account) (h : look (storedLines m n).passbook.slots i = some x) :
    ∀ l ∈ x.lines.drop 1, l.inPrint = false := by
  rw [storedLines_slot] at h
  intro l hl
  split at h
  · cases h; rw [List.eq_of_mem_replicate (List.mem_of_mem_drop hl)]; rfl
  · split at h
    · cases h; rw [List.eq_of_mem_replicate (List.mem_of_mem_drop hl)]; rfl
    · cases h

/-- A full store in which room is made in the account itself: it then holds 2 lines, within its threshold, or 2,035, over it. -/
theorem test_meets_PendingLinesLoadAndClear_own :
    Config.storeCapacity ≤ (storedLines 3 2045).passbook.lineCount
    ∧ (storedLines 3 2045).passbook.MakesRoom lineIn.account 0 ⟨lineIn.account, 2, manyLines 3⟩ ∧ 2 ≤ mergeableCount (manyLines 3)
    ∧ (mergeOldest 3 (manyLines 3)).length < up.tables.threshold 2
    ∧ Config.storeCapacity ≤ (storedLines 2045 3).passbook.lineCount
    ∧ (storedLines 2045 3).passbook.MakesRoom lineIn.account 0 ⟨lineIn.account, 2, manyLines 2045⟩
    ∧ min ((20 + 1) / 2 + 1) (mergeableCount (manyLines 2045)) = 11
    ∧ up.tables.threshold 2 ≤ (mergeOldest 11 (manyLines 2045)).length := by
  refine ⟨by decide +kernel, .inl ?_, by decide +kernel, by decide +kernel, by decide +kernel, .inl ?_, by decide +kernel, by decide +kernel⟩
  all_goals decide +kernel

/-- A full store in which slot 1 makes room: for a line of slot 0, which holds one line, and for a line of a new account. -/
theorem test_meets_PendingLinesLoadAndClear_fullest :
    let fresh : LineIn := { lineIn with account := text "004512367892" }
    Config.storeCapacity ≤ (storedLines 1 2047).passbook.lineCount
    ∧ (storedLines 1 2047).passbook.MakesRoom lineIn.account 1 ⟨text "004512367891", 2, manyLines 2047⟩
    ∧ (storedLines 1 2047).passbook.find lineIn.account = some (0, ⟨lineIn.account, 2, manyLines 1⟩)
    ∧ 2 ≤ mergeableCount (manyLines 2047)
    ∧ (Reader.list 1 16 readPendingLine).whole (1 :: text "004512367892" ++ lineBytesIn.drop 12) = .ok [fresh] true []
    ∧ (storedLines 1 2047).passbook.MakesRoom fresh.account 1 ⟨text "004512367891", 2, manyLines 2047⟩
    ∧ (storedLines 1 2047).passbook.find fresh.account = none ∧ (storedLines 1 2047).passbook.LowestFree 2 := by
  have own : (storedLines 1 2047).passbook.find lineIn.account = some (0, ⟨lineIn.account, 2, manyLines 1⟩) := by decide +kernel
  have new : (storedLines 1 2047).passbook.find (text "004512367892") = none := by decide +kernel
  have full := storedLines_fullest 1 2047 (by decide)
  refine ⟨by decide +kernel, .inr ⟨fun i x h => ?_, full⟩, own, by decide +kernel, by decide +kernel, .inr ⟨fun i x h => ?_, full⟩, new,
    by decide, by rw [storedLines_slot]; rfl, fun j hj => ?_⟩
  · rw [own] at h; cases h; decide +kernel
  · rw [new] at h; cases h
  · rw [storedLines_slot]; split
    · simp
    · rw [if_pos (by omega)]; simp

theorem test_meets_CorrectionIsPosted :
    readChanges.whole ([1, 0] ++ beInt 4 (-40)) = .ok [⟨0, -40⟩] true [] ∧ withCash.correctionOk 16 0 [⟨0, -40⟩] = true
    ∧ withCash.correctionOk 16 0 [⟨0, -41⟩] = false ∧ withCash.journalRoom = true ∧ withCash.day.state = .noDay
    ∧ isDrawer 16 = true := by decide +kernel

/-! ### Settings and starts -/

/-- An image of eight bytes with the right check. -/
def smallImage : List Byte := clearedMark ++ be 2 8 ++ imageCheck 8 [1, 2] ++ [1, 2]

/-- A save at a step, with its writes; the memory holds the image. -/
def saving (step : SaveStep) (writes : List MemWrite) : State :=
  { up with mgmt := { up.mgmt with
      inFlight := some ⟨10, 120⟩
      memory := Memory.writeBytes [] 0 smallImage
      save := some { image := smallImage, step, writes, writeTimer := some 0, saveTimer := some 0 } } }

theorem test_meets_SaveRunsToItsOutcome :
    up.tables.imageLength ≤ Config.settingsBytes
    ∧ ((saving .writing [⟨0, clearedMark⟩, ⟨2, [1]⟩]).mgmt.save.map Save.writes) = some [⟨0, clearedMark⟩, ⟨2, [1]⟩]
    ∧ ((saving .writing [⟨4, [1]⟩]).mgmt.save.map Save.writes) = some [⟨4, [1]⟩]
    ∧ ((saving .readingBack []).mgmt.save.map Save.step) = some .readingBack
    ∧ readBackAgrees smallImage ((saving .readingBack []).memoryAnswer smallImage.length .asHeld) = true
    ∧ (saving .marking [⟨0, validMark⟩]).mgmt.inFlight = some ⟨10, 120⟩ := by decide +kernel

theorem test_meets_SaveRunsToItsOutcome_fails :
    ((saving .writing [⟨4, [1]⟩]).mgmt.save.map Save.writeTimer) = some (some 0)
    ∧ ((saving .writing [⟨4, [1]⟩]).mgmt.save.map Save.saveTimer) = some (some 0)
    ∧ readBackAgrees smallImage ((saving .readingBack []).memoryAnswer smallImage.length (.other [])) = false
    ∧ (saving .writing []).mgmt.inFlight = some ⟨10, 120⟩ := by decide +kernel

/-- Ninety-six formats of 40 literals of 40 characters. -/
def wideTables : Tables :=
  { Tables.defaults with formats := Vector.replicate 96 (some (Format.make 2 (List.replicate 40
      { kind := .literal, row := 1, column := 1, length := 40, attr := 0, source := .literal (List.replicate 40 65)
        currency := none }))) }

theorem length_encAll {α : Type} (f : α → List Byte) (l : List α) : (encAll f l).length = (l.map fun a => (f a).length).sum := by
  simp [encAll, List.length_flatten, Function.comp_def]

theorem imageLength_sum (t : Tables) : t.imageLength
    = 6 + ((List.range' 1 10).map fun n => ((tableEntries n).map fun i => (encEntry (t.content n i)).length).sum).sum := by
  simp only [Tables.imageLength, Tables.bytes, Tables.tableBytes, length_encAll]

theorem test_meets_SaveRunsToItsOutcome_tooLarge : Config.settingsBytes < wideTables.imageLength :=
  lt_of_lt_of_eq (by decide +kernel) (imageLength_sum wideTables).symm

/-- A RESTART whose link has come UP. -/
def restarted : State :=
  { up with mgmt := { up.mgmt with
      inFlight := some ⟨11, 121⟩, restart := some { linkLost := 1, entry := .written 1, day := .noDay, upSeen := true } } }

theorem test_meets_RestartAndColdStarts_warm :
    restarted.mgmt.restart = some { linkLost := 1, entry := .written 1, day := .noDay, upSeen := true }
    ∧ restarted.mgmt.inFlight = some ⟨11, 121⟩ ∧ ((visited signed up).station 7).state = .signed
    ∧ (up.port 1).state = .disabled ∧ ((polling .none).port 1).state ≠ .disabled := by decide +kernel

/-- Waiting for the settings image. -/
def reading : State := { State.reset with phase := .readingImage, mgmt := (saving .writing []).mgmt }

/-- Tables whose branch parameters enable port 3. -/
def enabledTables : Tables := { Tables.defaults with params := { defaultParams with enables := 0x04 } }

theorem test_meets_RestartAndColdStarts :
    reading.phase = .readingImage ∧ reading.carrier = false ∧ ({ reading with carrier := true } : State).carrier = true
    ∧ readImage (reading.memoryAnswer Config.settingsBytes (.other enabledTables.image)) = some enabledTables
    ∧ bitSet enabledTables.params.enables (3 - 1) = true ∧ bitSet enabledTables.params.enables (4 - 1) = false
    ∧ Tables.defaults.params.enables = 0 ∧ readImage (reading.memoryAnswer Config.settingsBytes (.other [])) = none
    ∧ ({ State.reset with phase := .resetHeld } : State).phase = .resetHeld := by
  refine ⟨rfl, rfl, rfl, ?_, by decide, by decide, rfl, by decide +kernel, rfl⟩
  exact (readImage_image _ (by decide +kernel)).trans (by decide +kernel)

/-! ### Invariants whose states are built above -/

theorem test_meets_StepKeepsTableAndRoom :
    TableFits { paying .sent with pending := [.visit] } ∧ TableFits { forwardingOut with pending := [.visit] }
    ∧ ∃ t, step { paying .sent with pending := [.visit] } = .next t := by
  refine ⟨⟨by decide, ?_, by decide +kernel, by decide +kernel, by decide +kernel, by decide +kernel, by decide +kernel⟩,
    ⟨by decide, ?_, by decide +kernel, by decide +kernel, by decide +kernel, by decide +kernel, by decide +kernel⟩, _, rfl⟩
  all_goals intro v h; cases h

/-- What holds at every place of a list holds of whatever stands at one. -/
theorem at_places {α : Type} {P : Nat → α → Prop} (l : List α) (h : ∀ (i : Nat) (hi : i < l.length), P i l[i]) (i : Nat) (x : α)
    (hx : l[i]? = some x) : P i x := by
  obtain ⟨hi, rfl⟩ := List.getElem?_eq_some_iff.mp hx
  exact h i hi

/-- Drawer 16 has 2 of its 40 pieces reserved, for the entry of `paying`. -/
theorem test_meets_StepKeepsReservations :
    DrawersFit { paying .sent with pending := [.visit] } ∧ TableFits { paying .sent with pending := [.visit] } := by
  refine ⟨fun d c hd hc => ?_, test_meets_StepKeepsTableAndRoom.1⟩
  have all : ∀ d, d < 17 → ∀ c, c < 12 →
      (look ((paying .sent).drawer d).currencies c).pieces.length = ((paying .sent).tables.denom c).length
      ∧ ∀ (i : Nat) (h : i < (look ((paying .sent).drawer d).currencies c).pieces.length),
          let p := (look ((paying .sent).drawer d).currencies c).pieces[i]
          p.onHand ≤ Config.maxPieces ∧ p.reserved ≤ p.onHand ∧ p.reserved = (paying .sent).router.reservedIn d c i := by
    decide +kernel
  have h := all d (by simp [isDrawer] at hd; omega) c hc
  exact ⟨h.1, at_places _ h.2⟩

/-- A day being sent, a segment queued and one on the line, with a line in the store. -/
def sendingAndStored : State :=
  { sendingDay with
    pending := [.visit], passbook := oneLineStored.passbook
    uplink := { sendingDay.uplink with data := [⟨.eodSeg, 4, []⟩], sending := some ⟨⟨.eodSeg, 3, []⟩, 0, .bps64000, false⟩ } }

theorem test_meets_StepKeepsStoreAndSender :
    sendingAndStored.passbook.Sound ∧ SenderFits sendingAndStored ∧ ∃ t, step sendingAndStored = .next t := by
  refine ⟨test_meets_EnableFlagsMovePorts_store.1, ?_, _, rfl⟩
  · refine ⟨by decide, by decide, by decide, by decide, by decide, by decide, by decide, by decide, by decide, by decide, by decide,
      by decide, by decide, ?_⟩
    intro x h hb hc; cases h; decide

/-- Station 7's request outstanding and a RESTART to be taken with SAVE SETTINGS in flight and its save in progress; in the second state the
day is CLOSING and the drawer of the request, close-pending, is left free by it. -/
def restartBusy : State := { ({ paying .sent with pending := [.visit] } : State) with mgmt := (saving .writing [⟨4, [1]⟩]).mgmt }

/-- The table and the drawers have nothing to do with the Management Unit. -/
theorem fits_mgmt (s : State) (m : Mgmt) (h : DrawersFit s ∧ TableFits s) :
    DrawersFit { s with mgmt := m } ∧ TableFits { s with mgmt := m } := h

def restartClosing : State :=
  let s := inDay .closing { restartBusy with drawers := put restartBusy.drawers 16 { restartBusy.drawer 16 with isOpen := true } }
  { s with day := { s.day with closePending := [3, 16] } }

theorem test_meets_RestartAndColdStarts_busy (tag : Nat) :
    CommandHanded (withBlock .mgmtCmd tag [11, 0] restartBusy) tag [11, 0]
    ∧ restartBusy.mgmt.inFlight ≠ none ∧ restartBusy.mgmt.save ≠ none ∧ TableFits restartBusy ∧ DrawersFit restartBusy
    ∧ restartBusy.router.stationEntries = [payingOut .sent] ∧ restartBusy.restartOutcome = .written 2
    ∧ (inDay .sending restartBusy).restartOutcome = .notOffered ∧ restartClosing.freedByLoss 16 ∧ ¬ restartClosing.freedByLoss 3 :=
  ⟨⟨⟨_, head_withBlock _ _ _ _ rfl, rfl, rfl⟩, (by decide +kernel : restartBusy.responsesOwed ≤ 2)⟩, by decide +kernel,
    by decide +kernel, (fits_mgmt _ _ test_meets_StepKeepsReservations).2,
    (fits_mgmt _ _ test_meets_StepKeepsReservations).1, by decide +kernel, by decide +kernel, by decide +kernel,
    ⟨by decide +kernel, by decide +kernel, by decide +kernel, by decide +kernel, payingOut .sent, by decide +kernel, by decide +kernel⟩,
    fun h => absurd h.2.2.1 (by decide +kernel)⟩

/-- A line of the store in print at port 1, in a day that is OPEN and in one that is frozen. -/
theorem test_meets_RestartAndColdStarts_inPrint :
    sendingAndStored.passbook.Sound ∧ sendingAndStored.day.state.frozen = true
    ∧ (inDay .opened sendingAndStored).day.state.frozen = false
    ∧ (sendingAndStored.setJob 1 (some { jobOf .printing (stripeAt 4 1) with inPrint := some (text "000000000101") })).lineInPrint 1
      = some (text "004512367890", text "000000000101") :=
  ⟨test_meets_StepKeepsStoreAndSender.1, rfl, rfl, by decide +kernel⟩

/-! ### One step of each command -/

/-- Why the last response of the control queue refused its command: its reason code; 0 for DONE. -/
def lastReason (s : State) : Option Byte := s.uplink.control.getLast?.map fun b => b.body.getD 2 0xFF

/-- R1, R2, R6, R7: a SIGNED station is sent the row that is dirty, its READY, and the POLL 07h 10h 00h E9h, the first character marked. -/
theorem test_visit_frames :
    ((after .visit (turnOf 7 signed up)).station 7).frames = [.row 1 1 80, .ready]
    ∧ (after .visit (turnOf 7 signed up)).loop.sentFrames.getLast?
      = some [0b11000001110, 0b10000100000, 0b10000000000, 0b10111010010] := by decide +kernel
/-- R8: frame refused hands the frame back. -/
theorem test_nil_refused :
    ((after (.nil 1) (visited { signed with frames := [.row 9 10 40] } up)).screen 7).dirtySpan 9 = some ⟨10, 40⟩ := by
  decide +kernel
/-- R42: a kind that is not loaded. -/
theorem test_req_unknown_kind :
    ((after (.req 0 [2, 0, 0, 0]) asking).screen 7).alerts = [⟨.refused, 1⟩] := by decide +kernel
/-- R44: in DOWN a forwarded request that may not stand in is refused LINE DOWN, the seventeenth reason. -/
theorem test_req_line_down :
    ((after (.req 0 [1, 0, 0, 0]) (inLink .down asking)).screen 7).alerts = [⟨.refused, 17⟩] := by decide +kernel
/-- R110: the worked alert queue: the head goes, the next stays. -/
theorem test_alert_ack :
    ((after (.alertAck 0) (visited signed ((up.giveAlert 7 ⟨.drawerHigh, 6⟩).giveAlert 7 ⟨.turnPage, 3⟩))).screen 7).alerts
      = [⟨.turnPage, 3⟩] := by decide +kernel
/-- R17: the echo differs at position 8. -/
theorem test_echo_capture :
    ((after (.testEcho 0 [1, 2, 3, 4, 5, 6, 7, 9]) echoing).loop.test.map fun t => (t.errors, t.capture))
      = some (1, some ⟨126, some 8, some 8, some 9⟩) := by decide +kernel
/-- R3, R9, R13: a wrong address is a miss, counted, and the visit waits for the line. -/
theorem test_wrong_address :
    let t := after (.unusableAnswer (chars [8])) (visited signed up)
    ((t.station 7).misses, t.loop.failCount, t.loop.visit.map Visit.markWait) = (1, 1, some true) := by decide +kernel
/-- R9, R13: silence is a miss that the window does not count. -/
theorem test_silence :
    let t := after .answerTimeout (visited signed up)
    ((t.station 7).misses, t.loop.failCount, t.loop.nextAddr) = (1, 0, 8) := by decide +kernel
/-- R9: the eighth miss. -/
theorem test_eighth_miss :
    let t := after .answerMarkTimeout (visited { signed with misses := 7 } up)
    ((t.station 7).state, (t.station 7).teller) = (.absent, none) := by decide +kernel
/-- R28: CARRIER brings SYNC, with a SYNC offered. -/
theorem test_carrier :
    let t := after .carrierPresent State.reset
    (t.uplink.link, t.uplink.control, t.uplink.attemptTimer) = (.sync, [⟨.sync, 0, []⟩], some 5000) := by decide +kernel
/-- R56: an entry SENT with an OUT leg completes LINK LOST in doubt: one entry, the unanswered record and the alert. -/
theorem test_carrier_lost_entries :
    let t := after .carrierLost (paying .sent)
    t.router.table = [] ∧ (t.journal.entries.map fun e => (e.sequence, e.result, e.legs.map JLeg.inDoubt)) = [(1, some .linkLost, [true])]
    ∧ (look t.router.unanswered 6).map Unanswered.tag = some ⟨7, 41⟩ ∧ (t.screen 7).alerts = [⟨.linkLostInDoubt, 1⟩]
    ∧ ((look (t.drawer 16).currencies 0).pieces.map Pieces.reserved) = [0] := by decide +kernel
/-- R187: the worked send: the link lost at base 6 suspends the day with pointer at base. -/
theorem test_carrier_lost :
    let t := after .carrierLost { sendingDay with day := { sendingDay.day with base := 6, pointer := 10, highest := 9 } }
    (t.day.state, t.day.pointer, t.day.highest, t.day.timer) = (.suspended, 6, 9, none) := by decide +kernel
/-- R21 to R24: a HOLD to branch 0, its bytes written out from spec 11: class 08h, branch, tag and length 0, and its check. -/
theorem test_block_stored :
    (after (.blockComplete ([8, 0, 0, 0, 0, 0, 0] ++ crcBytes [8, 0, 0, 0, 0, 0, 0]) 5) up).uplink.rx
      = [{ status := .good, cls := some .hold, tag := 0, body := [], time := 5, lost := 0 }] := by decide +kernel
/-- R23: a changed check is a check error. -/
theorem test_block_check_error :
    ((after (.blockComplete [8, 0, 0, 0, 0, 0, 0, 0, 0] 5) up).uplink.rx.map RxBlock.status) = [.checkError] := by decide +kernel
/-- R30: the sixteenth bad block of a burst. -/
theorem test_error_burst :
    let t := after .badBlock (badHead 15 .up)
    (t.uplink.link, t.uplink.counters.bursts, t.uplink.counters.checkErrors) = (.recovery, 1, 1) := by decide +kernel
/-- R28: a SYNC 1 s after the stamp brings UP; one later is the new stamp. -/
theorem test_sync_pair :
    ((after .sync (syncHead .sync (some 1) 0)).uplink.link, (after .sync (syncHead .sync (some 0) 0)).uplink.firstSync)
      = (.up, some 1001) := by decide +kernel
/-- R29: the worked fallback: the third failure switches 64,000 to 19,200. -/
theorem test_fallback :
    let t := after .attemptTimer (attempting 2 3 .bps64000)
    (t.uplink.rate, t.uplink.syncFailures, t.uplink.counters.rateSwitches) = (.bps19200, 0, 1) := by decide +kernel
/-- R33: a second SYNC is not added. -/
theorem test_sync_offers :
    ((after .syncOffer (queued [⟨.sync, 0, []⟩] [] (timersOver .sync))).uplink.control,
      (after .keepAlive (timersOver .up)).uplink.control) = ([⟨.sync, 0, []⟩], [⟨.sync, 0, []⟩]) := by decide +kernel
/-- R30, R31. -/
theorem test_link_timers :
    ((after .silenceTimer (timersOver .up)).uplink.link, (after .recoveryLimit (timersOver .recovery)).uplink.link)
      = (.recovery, .sync) := by decide +kernel
/-- R32. -/
theorem test_hold_release :
    ((after .hold (withBlock .hold 0 [] up)).uplink.holdTimer, (after .release (withBlock .release 0 [] heldUp)).uplink.held,
      (after .holdTimer heldUp).uplink.counters.autoReleases) = (some 60000, false, 1) := by decide +kernel
/-- R34: held, the data block waits; the block sent opens with 2Dh D4h. -/
theorem test_transmit :
    ((after .transmitStart (queued [] [⟨.request, 1, []⟩] heldUp)).uplink.sending,
      (after .transmitStart (queued [⟨.sync, 0, []⟩] [] up)).uplink.lineOut.take 3) = (none, [0x2D, 0xD4, 0x0A]) := by
  decide +kernel
/-- R181: a segment leaves: highest sent and the timer. -/
theorem test_segment_left :
    let t := after .blockLeftTransmitter (inDay .sending (sendingBlock .eodSeg false))
    (t.day.highest, t.day.timer) = (1, some 4000) := by decide +kernel
/-- R51: an approval completes the request and is journaled. -/
theorem test_reply :
    let t := after .reply (withBlock .reply (7 * 256 + 41) approval waiting)
    (t.router.table, t.journal.entries.map JEntry.result) = ([], [some .approved]) := by decide +kernel
/-- R53: a deadline. -/
theorem test_deadline :
    let t := after (.deadlineExpiry ⟨7, 41⟩) waiting
    (t.router.counters.timedOut, (t.screen 7).alerts) = (1, [⟨.timedOut, 1⟩]) := by decide +kernel
/-- R60: the forward entry's tag has station 0. -/
theorem test_forwarder :
    ((after .forwarderOffer forwarding).router.table.map OutEntry.tag) = [⟨0, 0⟩] := by decide +kernel
/-- R109. -/
theorem test_bulletin :
    let t := after .bulletin (withBlock .bulletin 0 (text "HELLO") (visited signed up))
    (t.composer.bulletinNumber, (t.screen 7).alerts) = (1, [⟨.bulletin, 1⟩]) := by decide +kernel
/-- R117, R207: ATTEND is ignored with the interlock open. -/
theorem test_attend :
    (((after (.attend 1 true) (inDialogue .selecting)).port 1).dialogue,
      ((after (.attend 1 false) (inDialogue .selecting)).port 1).dialogue) = (.waiting, .selecting) := by decide +kernel
/-- R127, R128: an IDLE poll unanswered. -/
theorem test_select_timer : ((after (.selectTimer 1) (polling .selecting)).port 1).state = .notReady := by decide +kernel
/-- R119: a code that names no phase aborts the dialogue with a pulse. -/
theorem test_phase_request :
    (((after (.phaseRequest 1 4) (inDialogue .waiting)).port 1).dialogue,
      ((after (.phaseRequest 1 7) (inDialogue .waiting)).port 1).pulseTimer) = (.stateIn, some 10) := by decide +kernel
/-- R118, spec 11: READ STRIPE is 02h. -/
theorem test_byte_request : ((after (.byteRequest 1 0) (inDialogue .orderOut)).port 1).byteOut = some 2 := by decide +kernel
/-- R119, R131: other timers of a port. -/
theorem test_port_timers :
    (((after (.phaseStepTimer 1) (polling .waiting)).port 1).counters.aborts, ((after (.portResetEnd 1) up).port 1).pulseTimer,
      ((after (.retryTimer 1) (inDialogue .retryWait)).port 1).attempts,
      ((after (.readyWait 1) (withPort { quietPort with state := .notReady, readyTimer := some 0 } up)).port 1).state,
      ((after (.pollTimer 1) (polling .none)).port 1).dialogue) = (1, none, 6, .failed, .selecting) := by decide +kernel
/-- R172 to R174. -/
theorem test_closing :
    (((after (.forceClose 16) closing).journal.entries.map JEntry.kind), (after .freeze (inDay .closing up)).day.state)
      = ([.drawerClosed], .closed) := by decide +kernel
/-- R180 to R186: the worked send, N = 9: the acknowledgement of 3 lets segment 8 go; the eighth expiry fails the day. -/
theorem test_sender :
    ((after .sendAttemptStart (inDay .closed up)).day.state,
      (after .eodSegmentOffer sendingDay).uplink.data.map TxBlock.tag,
      (after .eodAck (withBlock .eodAck 3 [0] sendingDay)).day.base,
      (after .eodNak (withBlock .eodNak 4 [] sendingDay)).day.pointer, (after .ackTimer sendingDay).day.state)
      = (.sending, [5, 6], 4, 4, .failed) := by decide +kernel
/-- R195: LOAD TABLE of each table, its content written out from spec 11; the reason is 0. -/
theorem test_loads_one_to_five :
    (lastReason (after .loadBranchParameters (cmd 1 ([1, 0, 1, 1, 0] ++ encParams { defaultParams with branch := 9 }))),
      (after .loadStationTable (cmd 1 [1, 0, 2, 24, 0, 2, 0xFF, 3, 8])).tables.station 24,
      (after .loadTransactionKinds (cmd 1 [1, 0, 3, 64, 0, 4, 1, 1, 0, 0, 96])).tables.kind 64,
      (after .loadCurrencies (cmd 1 [1, 0, 4, 0, 0, 0x51, 0x58, 0x42, 2, 0, 100])).tables.currency 0,
      (after .loadDenominationLists (withBlock .mgmtCmd 1 [1, 0, 5, 0, 0, 1, 0, 0, 0x13, 0x88, 1] (withCurrency up))).tables.denom 0)
      = (some 0, ⟨.supervisor, none, 3, some 8⟩, some ⟨.cashOut, true, true, false, false, 96⟩, some ⟨text "QXB", 2, 100⟩,
          [⟨5000, .note⟩]) := by decide +kernel
theorem test_loads_six_to_ten :
    ((after .loadRates (cmd 1 [1, 0, 6, 3, 0, 0, 0, 0, 0x1A, 0x38])).tables.rate 3,
      ((after .loadDrawerLimits (cmd 1 ([1, 0, 7, 16, 0] ++ be 7 1 ++ be 7 2 ++ be 7 3 ++ be 7 0))).tables.limit 16),
      ((after .loadFormats (cmd 1 [1, 0, 8, 14, 0, 4, 1, 2, 0, 30, 20, 0, 1, 0])).tables.format 14).map Format.origin,
      lastReason (after .loadAttributeBanks (cmd 1 ([1, 0, 9, 3, 0] ++ encAll id (List.replicate 16 [2, 0, 1, 0, 0])))),
      ((after .loadBookLayouts (cmd 1 [1, 0, 10, 2, 0, 8, 10, 2, 1, 5, 0, 0, 1, 10, 12, 16, 30, 12, 44, 12, 0])).tables.layout 2))
      = (6712, ⟨1, 2, 3, 0⟩, some 4, some 0, some oneLayout) := by decide +kernel
/-- R193: refusals in the order of their tests: a load too short, a reserved byte set, a bad index. -/
theorem test_load_refusals :
    (lastReason (after .loadRates (cmd 1 [1, 0, 6, 3, 0, 0])), lastReason (after .loadRates (cmd 1 [1, 9, 6, 3, 0, 0, 0, 0, 0, 1])),
      lastReason (after .loadRates (cmd 1 [1, 0, 6, 12, 0, 0, 0, 0, 0, 1])),
      lastReason (after .loadRates (cmd 1 [1, 0, 6, 0, 0, 0, 0, 0, 0, 1]))) = (some 2, some 3, some 5, some 6) := by decide +kernel
/-- R195, R198. -/
theorem test_reads :
    ((after .readTable (cmd 1 [2, 0, 6, 0])).uplink.control.getLast?.map TxBlock.body,
      ((after .readStatus (cmd 1 [3, 0, 1, 0, 0])).uplink.control.getLast?.map fun b => b.body.take 9))
      = (some [2, 0, 0, 0, 0, 0, 0, 0x0F, 0x42, 0x40], some [3, 0, 0, 0, 2, 0, 1, 3, 0]) := by decide +kernel
/-- R12, R127, R197: the flags, targets 6 (HOLD of station 7), 24 (ENABLE of port 1). -/
theorem test_hold_and_enable :
    (((after .setHold (withBlock .mgmtCmd 1 ([4, 0] ++ be 5 64) (visited signed up))).station 7).state,
      ((after .clearHold (withBlock .mgmtCmd 1 ([5, 0] ++ be 5 64) (visited { signed with state := .held } up))).station 7).state,
      ((after .setEnable (cmd 1 ([4, 0] ++ be 5 (2 ^ 24)))).port 1).state,
      ((after .clearEnable (withBlock .mgmtCmd 1 ([5, 0] ++ be 5 (2 ^ 24)) (polling .none))).port 1).state)
      = (.held, .absent, .notReady, .disabled) := by decide +kernel
/-- R14, R40, R197. -/
theorem test_parameter_flags :
    ((after .setStandInEnable (cmd 1 ([4, 0] ++ be 5 (2 ^ 32)))).params.standInEnable,
      (after .clearStandInEnable (cmd 1 ([5, 0] ++ be 5 (2 ^ 32)))).mgmt.unsaved,
      (after .setLoopFallbackDisable (cmd 1 ([4, 0] ++ be 5 (2 ^ 33)))).params.fallbackDisable,
      lastReason (after .clearLoopFallbackDisable (cmd 1 ([5, 0] ++ be 5 (2 ^ 33)))),
      (after .rateRestore (withBlock .mgmtCmd 1 ([4, 0] ++ be 5 (2 ^ 34)) { up with loop := { up.loop with failCount := 9 } })).loop.failCount)
      = (true, false, true, some 0, 0) := by decide +kernel
/-- R169 to R171, R188. -/
theorem test_day_commands :
    ((after .openDay (cmd 1 ([6, 0] ++ text "20240229" ++ [0]))).day.state,
      lastReason (after .openDay (cmd 1 ([6, 0] ++ text "20230229" ++ [0]))),
      (after .closeDay (withBlock .mgmtCmd 1 [7, 0] (inDay .opened up))).day.state,
      lastReason (after .closeDay (cmd 1 [7, 0])),
      (after .resendEod (withBlock .mgmtCmd 1 [8, 0] (inDay .sent up))).day.state)
      = (.opened, some 6, .closing, some 8, .sending) := by decide +kernel
/-- R199. -/
theorem test_clock :
    ((after .setTime (cmd 1 [9, 0, 1, 0x51, 0x7F])).mgmt.clock, lastReason (after .setTime (cmd 1 [9, 0, 1, 0x51, 0x80])),
      (after .clockSecond lastSecond).mgmt.clock, lastReason (after .unknownCommand (cmd 1 [17, 0])))
      = (86399, some 6, 0, some 1) := by decide +kernel
/-- R15, R18. -/
theorem test_loop_test :
    (((after .loopTestStart (cmd 1 ([12, 0, 24, 2] ++ List.replicate 8 0 ++ [1]))).station 24).state,
      ((after .loopTestStop (withBlock .mgmtCmd 1 [13, 0, 7] echoing)).uplink.control.getLast?.map fun b => b.body.drop 4))
      = (.test, some [0, 0, 126, 0, 0, 0, 0, 0]) := by decide +kernel
/-- R140, R152, R153: a line is stored, and two are cleared. -/
theorem test_pending_lines :
    ((after .loadPending (withBlock .mgmtCmd 1 ([14, 0, 1] ++ lineBytesIn) oneLineStored)).passbook.lineCount,
      (after .clearPending (withBlock .mgmtCmd 1 ([15, 0] ++ text "004512367890") oneLineStored)).passbook.lineCount)
      = (2, 0) := by decide +kernel
/-- R89: 40 pieces taken out. -/
theorem test_correction :
    (((after .postCorrection (withBlock .mgmtCmd 1 ([16, 0, 16, 0, 1, 0] ++ beInt 4 (-40)) withCash)).drawer 16).holds 0) = false := by
  decide +kernel
/-- R194, R201, R203: a save begins UNCONFIGURED; a RESTART during it leaves NOT WRITTEN. -/
theorem test_save_and_restart :
    ((after .saveSettings (cmd 120 [10, 0])).mgmt.inFlight,
      (after .restart (withBlock .mgmtCmd 121 [11, 0] (saving .writing [⟨0, clearedMark⟩]))).mgmt.lastSave,
      (after .restart (withBlock .mgmtCmd 121 [11, 0] (saving .writing [⟨0, clearedMark⟩]))).mgmt.inFlight,
      (after .restartResponse restarted).mgmt.inFlight)
      = (some ⟨10, 120⟩, .notWritten, some ⟨11, 121⟩, none) := by decide +kernel
/-- R201. -/
theorem test_save_ends :
    ((after .settingsWriteComplete (saving .marking [⟨0, validMark⟩])).mgmt.lastSave,
      ((after (.settingsReadBack .asHeld) (saving .readingBack [])).mgmt.save.map Save.step),
      (after .settingsWriteTimeout (saving .writing [⟨4, [1]⟩])).mgmt.lastSave, (after .saveTimer (saving .readingBack [])).mgmt.lastSave)
      = (.written, some .marking, .notWritten, .notWritten) := by decide +kernel
/-- R202, R207. -/
theorem test_cold_starts :
    ((after .powerUp up).phase, (after .resetAsserted up).phase, (after .powerUp (after .resetAsserted up)).phase,
      (after .resetReleased (after .powerUp (after .resetAsserted up))).phase, (after .resetReleased (after .resetAsserted up)).mgmt.cause,
      (after (.settingsImageRead (.other [])) reading).mgmt.configured, (after .settingsReadTimeout reading).phase)
      = (.readingImage, .resetHeld, .resetHeld, .readingImage, .resetPin, false, .running) := by decide +kernel
/-- An empty queue: a millisecond passes (assumption 1). -/
theorem test_tick : (match step (timersOver .up) with | .next t => t.uplink.silenceTimer | _ => none) = some 0 := by decide +kernel

end Sys2Proof.Tests
end

section
/-! SUPPORT. The hold state (R32): a HOLD, a RELEASE and the expiry of the hold timer. -/

namespace Sys2Proof.Machine

/-! ### What the hold state and the taking of a block leave alone -/

/-- R25, R30: the hold state, as the handling of a good block in UP finds it. -/
@[simp] theorem Uplink.taken_held (u : Uplink) : u.taken.held = u.held := by
  simpa [Uplink.afterGood, Uplink.reportLost, Uplink.count] using u.afterGood_held

/-- R24, R32: a HOLD touches no counter, so the lost count may be reported before it. -/
theorem Uplink.reportLost_hold (n : Nat) (u : Uplink) : u.hold.reportLost n = (u.reportLost n).hold := rfl

/-- R24, R32: clearing the hold state touches no counter, so the lost count may be reported before it. -/
theorem Uplink.reportLost_release (n : Nat) (u : Uplink) : u.release.reportLost n = (u.reportLost n).release := rfl

/-- R24, R25: a block whose act on the uplink commutes with the report of the lost count: the act is made on the uplink once the block
has been taken and handled. -/
theorem State.classified_onUplink {s : State} {cls : BlockClass} {b : RxBlock} {act : RxBlock → State → State}
    {f : Uplink → Uplink} (h : HeadBlock s cls b)
    (hact : act b { s with uplink := s.uplink.taken } = { s with uplink := f s.uplink.taken })
    (hf : ∀ n u, (f u).reportLost n = f (u.reportLost n)) :
    s.classified cls act = { s with uplink := f s.uplink.afterGood } := by
  rw [State.classified_head act h, hact, State.onUplink, hf, Uplink.afterGood]

/-! ### The three commands -/

/-- HOLD, held or not. -/
theorem exec_hold_head {s : State} {b : RxBlock} (h : HeadBlock s .hold b) :
    exec .hold s = .next { s with uplink := s.uplink.afterGood.hold } :=
  congrArg Host.Outcome.next (State.classified_onUplink h rfl Uplink.reportLost_hold)

/-- RELEASE while held. -/
theorem exec_release_held {s : State} {b : RxBlock} (h : HeadBlock s .release b) (hheld : s.uplink.held = true) :
    exec .release s = .next { s with uplink := s.uplink.afterGood.release } :=
  congrArg Host.Outcome.next
    (State.classified_onUplink h (by simp [hheld, State.onUplink]) Uplink.reportLost_release)

/-- RELEASE while not held: the block is taken and nothing more happens. -/
theorem exec_release_notHeld {s : State} {b : RxBlock} (h : HeadBlock s .release b) (hheld : s.uplink.held = false) :
    exec .release s = .next { s with uplink := s.uplink.afterGood } :=
  congrArg Host.Outcome.next
    (State.classified_onUplink (f := id) h (by simp [hheld]) fun _ _ => rfl)

/-- HOLD_TIMER: what the expiry does, by the guard of its command. -/
theorem exec_holdTimer (s : State) :
    exec .holdTimer s
      = .next (if s.uplink.held && running s.uplink.holdTimer then s.onUplink Uplink.autoRelease else s) := rfl

/-- HOLD_TIMER while held, its timer running: the automatic release. -/
theorem exec_holdTimer_held {s : State} (hheld : s.uplink.held = true) (htimer : s.uplink.holdTimer ≠ none) :
    exec .holdTimer s = .next { s with uplink := s.uplink.autoRelease } := by
  have hrun : running s.uplink.holdTimer = true := Option.isSome_iff_ne_none.mpr htimer
  rw [exec_holdTimer, hheld, hrun]
  rfl

/-- HOLD_TIMER while not held comes to nothing. -/
theorem exec_holdTimer_notHeld {s : State} (hheld : s.uplink.held = false) : exec .holdTimer s = .next s := by
  rw [exec_holdTimer, hheld]
  rfl

/-- Settles O33: a clause for each command and state of the hold. -/
theorem holdAndRelease : Obligations.HoldAndRelease :=
  ⟨fun _ _ h => exec_hold_head h,
    fun _ _ h hheld => exec_release_held h hheld,
    fun _ _ h hheld => exec_release_notHeld h hheld,
    fun _ hheld htimer => exec_holdTimer_held hheld htimer,
    fun _ hheld => exec_holdTimer_notHeld hheld⟩

end Sys2Proof.Machine
end

section
/-! SUPPORT. The alert row and the alert queue of a screen (R107, R108), one change of several screens, and a BULLETIN (R109). -/

namespace Sys2Proof.Machine

/-! ### A row written -/

/-- R94: two rows that differ in no column are the same row. -/
theorem eq_of_changedColumns_nil {old new : Row} (h : changedColumns old new = []) : old = new := by
  ext i hi
  have hcol := List.filter_eq_nil_iff.mp h (i + 1) (by simp; omega)
  simpa [Vector.getD, hi] using hcol

/-- R94: the row written, whether or not any of its cells changed. -/
theorem StationScreen.writeRow_row_self {r : Nat} (new : Row) (sc : StationScreen) (h : r - 1 < 24) :
    (sc.writeRow r new).row r = new := by
  simp only [StationScreen.writeRow]
  split
  · simp [StationScreen.row, put, Vector.getD, h]
  · rename_i hnone
    refine eq_of_changedColumns_nil (List.eq_nil_iff_forall_not_mem.mpr fun c hc => ?_)
    have hne : changedColumns (sc.row r) new ≠ [] := List.ne_nil_of_mem hc
    exact hnone _ _ (List.head?_eq_some_head hne) (List.getLast?_eq_some_getLast hne)

/-- Every other row reads as before. -/
theorem StationScreen.writeRow_row_other {r k : Nat} (new : Row) (sc : StationScreen) (h : k - 1 ≠ r - 1) :
    (sc.writeRow r new).row k = sc.row k := by
  by_cases hk : k - 1 < 24
  · simpa [StationScreen.row, Vector.getD, hk] using ((sc.writeRow_only r new).2 (k - 1) hk h).1
  · simp [StationScreen.row, Vector.getD, hk]

@[simp] theorem StationScreen.writeRow_alerts (r : Nat) (new : Row) (sc : StationScreen) :
    (sc.writeRow r new).alerts = sc.alerts := by rw [(sc.writeRow_only r new).1]

@[simp] theorem StationScreen.writeRow_alertsLost (r : Nat) (new : Row) (sc : StationScreen) :
    (sc.writeRow r new).alertsLost = sc.alertsLost := by rw [(sc.writeRow_only r new).1]

/-! ### Row 24 and the alert queue -/

section refreshAlert
variable (text : Option Text) (sc : StationScreen)

@[simp] theorem StationScreen.refreshAlert_alerts : (sc.refreshAlert text).alerts = sc.alerts := sc.writeRow_alerts _ _

@[simp] theorem StationScreen.refreshAlert_alertsLost : (sc.refreshAlert text).alertsLost = sc.alertsLost :=
  sc.writeRow_alertsLost _ _

theorem StationScreen.refreshAlert_row24 : (sc.refreshAlert text).row 24 = alertRow text sc.alerts :=
  sc.writeRow_row_self _ (by decide)

theorem StationScreen.refreshAlert_row_other {r : Nat} (h : r ≤ 23) : (sc.refreshAlert text).row r = sc.row r :=
  sc.writeRow_row_other _ (by omega)

end refreshAlert

section joinAlert
variable (text : Option Text) (al : Alert) (sc : StationScreen)

/-- R108: an alert of the code waits already. -/
theorem StationScreen.joinAlert_held (h : (sc.alerts.any fun x => x.alert = al.alert) = true) :
    sc.joinAlert text al = { sc with alerts := replaceParam al sc.alerts }.refreshAlert text := by
  simp only [StationScreen.joinAlert, h, if_true]

/-- R108: no alert of the code waits and the queue has room. -/
theorem StationScreen.joinAlert_room (h : (sc.alerts.any fun x => x.alert = al.alert) = false) (hroom : sc.alerts.length < 4) :
    sc.joinAlert text al = { sc with alerts := sc.alerts ++ [al] }.refreshAlert text := by
  simp only [StationScreen.joinAlert, h, Bool.false_eq_true, if_false, Config.alertCapacity, hroom, if_true]

/-- R108: no alert of the code waits and the queue is full: the second alert is lost. -/
theorem StationScreen.joinAlert_full (h : (sc.alerts.any fun x => x.alert = al.alert) = false) (hfull : 4 ≤ sc.alerts.length) :
    sc.joinAlert text al
      = { sc with alerts := sc.alerts.eraseIdx 1 ++ [al], alertsLost := bump255 sc.alertsLost }.refreshAlert text := by
  simp only [StationScreen.joinAlert, h, Bool.false_eq_true, if_false, Config.alertCapacity, Nat.not_lt.mpr hfull]

/-- R108: an alert that joins changes the queue and the count of lost alerts; then row 24 is formed again. -/
theorem StationScreen.joinAlert_cases :
    ∃ queue lost, sc.joinAlert text al = { sc with alerts := queue, alertsLost := lost }.refreshAlert text := by
  cases h : sc.alerts.any fun x => x.alert = al.alert with
  | true => exact ⟨_, _, sc.joinAlert_held text al h⟩
  | false =>
    rcases Nat.lt_or_ge sc.alerts.length 4 with hroom | hfull
    · exact ⟨_, _, sc.joinAlert_room text al h hroom⟩
    · exact ⟨_, _, sc.joinAlert_full text al h hfull⟩

theorem StationScreen.joinAlert_row24 : (sc.joinAlert text al).row 24 = alertRow text (sc.joinAlert text al).alerts := by
  obtain ⟨queue, lost, h⟩ := sc.joinAlert_cases text al
  rw [h, StationScreen.refreshAlert_row24, StationScreen.refreshAlert_alerts]

theorem StationScreen.joinAlert_row_other {r : Nat} (hr : r ≤ 23) : (sc.joinAlert text al).row r = sc.row r := by
  obtain ⟨queue, lost, h⟩ := sc.joinAlert_cases text al
  rw [h, StationScreen.refreshAlert_row_other _ _ hr]
  rfl

end joinAlert

/-! ### One change of several screens -/

/-- Station a's screen after it was changed. -/
theorem State.screen_onScreen_self {a : Nat} (f : StationScreen → StationScreen) (s : State) (h : isStation a = true) :
    (s.onScreen a f).screen a = f (s.screen a) := by
  have h24 : a - 1 < 24 := by simp [isStation] at h; omega
  simp [State.screen, State.onScreen, State.onComposer, put, Vector.getD, h24]

/-- Every other station's screen after one was changed. -/
theorem State.screen_onScreen_other {a b : Nat} (f : StationScreen → StationScreen) (s : State) (h : a - 1 ≠ b - 1) :
    (s.onScreen a f).screen b = s.screen b := by
  simp [State.screen, State.onScreen, State.onComposer, put, Vector.getD, h]

theorem mem_stationNumbers {a : Nat} : a ∈ stationNumbers ↔ isStation a = true := by
  simp [stationNumbers, isStation]; omega

/-- The screens of several stations changed alike, in order. -/
def State.onScreens (l : List Nat) (f : StationScreen → StationScreen) (s : State) : State :=
  l.foldl (fun s a => s.onScreen a f) s

/-- R107: an alert given to several stations is one change of their screens. -/
theorem State.giveAlerts_eq_onScreens (l : List Nat) (al : Alert) (s : State) :
    s.giveAlerts l al = s.onScreens l (StationScreen.joinAlert s.composer.bulletinText al) := by
  unfold State.giveAlerts State.onScreens
  induction l generalizing s with
  | nil => rw [List.foldl_nil, List.foldl_nil]
  | cons a l ih =>
    have htext : (s.giveAlert a al).composer.bulletinText = s.composer.bulletinText := rfl
    rw [List.foldl_cons, List.foldl_cons, ih (s.giveAlert a al), htext, State.giveAlert]

/-- Screens changed: nothing else of the state changes. -/
theorem State.onScreens_frame (l : List Nat) (f : StationScreen → StationScreen) (s : State) :
    ∃ v, s.onScreens l f = { s with composer := { s.composer with screens := v } } := by
  induction l generalizing s with
  | nil => exact ⟨s.composer.screens, rfl⟩
  | cons a l ih =>
    obtain ⟨v, hv⟩ := ih (s.onScreen a f)
    exact ⟨v, hv⟩

@[simp] theorem State.onScreens_bulletinText (l : List Nat) (f : StationScreen → StationScreen) (s : State) :
    (s.onScreens l f).composer.bulletinText = s.composer.bulletinText := by
  obtain ⟨v, hv⟩ := s.onScreens_frame l f
  rw [hv]

@[simp] theorem State.onScreens_station (l : List Nat) (f : StationScreen → StationScreen) (s : State) (a : Nat) :
    (s.onScreens l f).station a = s.station a := by
  obtain ⟨v, hv⟩ := s.onScreens_frame l f
  rw [hv]
  rfl

/-- Each station of the list has its screen changed once, and every other station keeps its screen. -/
theorem State.screen_onScreens {l : List Nat} (f : StationScreen → StationScreen) (s : State) {a : Nat} (hl : l.Nodup)
    (hst : ∀ x ∈ l, isStation x = true) (ha : isStation a = true) :
    (s.onScreens l f).screen a = if a ∈ l then f (s.screen a) else s.screen a := by
  induction l generalizing s with
  | nil => rfl
  | cons x l ih =>
    obtain ⟨hx, hnodup⟩ := List.nodup_cons.mp hl
    have hrest : (s.onScreens (x :: l) f).screen a
        = if a ∈ l then f ((s.onScreen x f).screen a) else (s.onScreen x f).screen a :=
      ih (s.onScreen x f) hnodup fun y hy => hst y (List.mem_cons_of_mem x hy)
    rw [hrest]
    by_cases hax : a = x
    · subst hax
      simp [hx, State.screen_onScreen_self f s ha]
    · have hne : x - 1 ≠ a - 1 := by
        have := hst x List.mem_cons_self
        simp [isStation] at this ha
        omega
      simp [hax, State.screen_onScreen_other f s hne]

/-- The screens of the stations that meet a condition, changed. -/
theorem State.screen_onScreens_filter (p : Nat → Bool) (f : StationScreen → StationScreen) (s : State) {a : Nat}
    (ha : isStation a = true) :
    (s.onScreens (stationNumbers.filter p) f).screen a = if p a then f (s.screen a) else s.screen a := by
  have hnodup : stationNumbers.Nodup := List.nodup_range'
  rw [State.screen_onScreens f s (hnodup.filter p) (fun x hx => mem_stationNumbers.mp (List.mem_filter.mp hx).1) ha]
  simp [List.mem_filter, mem_stationNumbers, ha]

/-! ### A bulletin at one screen -/

/-- R109: row 24 formed again where a BULLETIN alert is the head. -/
def StationScreen.showBulletin (text : Text) (sc : StationScreen) : StationScreen :=
  if sc.alerts.head?.map Alert.alert = some .bulletin then sc.refreshAlert (some text) else sc

/-- R109: what bulletin number n makes of the screen of a station, SIGNED or not (`State.screen_takeBulletin`). -/
def StationScreen.takeBulletin (text : Text) (n : Nat) (signed : Bool) (sc : StationScreen) : StationScreen :=
  if signed then (sc.showBulletin text).joinAlert (some text) ⟨.bulletin, n⟩ else sc.showBulletin text

section atScreen
variable (text : Text) (n : Nat) (signed : Bool) (sc : StationScreen)

@[simp] theorem StationScreen.showBulletin_alerts : (sc.showBulletin text).alerts = sc.alerts := by
  unfold StationScreen.showBulletin
  split
  · exact sc.refreshAlert_alerts _
  · rfl

@[simp] theorem StationScreen.showBulletin_alertsLost : (sc.showBulletin text).alertsLost = sc.alertsLost := by
  unfold StationScreen.showBulletin
  split
  · exact sc.refreshAlert_alertsLost _
  · rfl

theorem StationScreen.showBulletin_row_other {r : Nat} (hr : r ≤ 23) : (sc.showBulletin text).row r = sc.row r := by
  unfold StationScreen.showBulletin
  split
  · exact sc.refreshAlert_row_other _ hr
  · rfl

theorem StationScreen.takeBulletin_unsigned : sc.takeBulletin text n false = sc.showBulletin text := rfl

theorem StationScreen.takeBulletin_signed :
    sc.takeBulletin text n true = (sc.showBulletin text).joinAlert (some text) ⟨.bulletin, n⟩ := rfl

theorem StationScreen.takeBulletin_row_other {r : Nat} (hr : r ≤ 23) : (sc.takeBulletin text n signed).row r = sc.row r := by
  cases signed with
  | false => exact sc.showBulletin_row_other text hr
  | true => rw [sc.takeBulletin_signed, StationScreen.joinAlert_row_other _ _ _ hr, sc.showBulletin_row_other text hr]

/-- R109: a BULLETIN alert at the head shows the new text, whether or not the station was given the alert. -/
theorem StationScreen.takeBulletin_row24 {x : Alert} {rest : List Alert}
    (hhead : (sc.takeBulletin text n signed).alerts = x :: rest) (hx : x.alert = .bulletin) :
    (sc.takeBulletin text n signed).row 24 = alertRow (some text) (sc.takeBulletin text n signed).alerts := by
  cases signed with
  | true => exact StationScreen.joinAlert_row24 _ _ _
  | false =>
    rw [sc.takeBulletin_unsigned, sc.showBulletin_alerts] at hhead ⊢
    have hshown : sc.showBulletin text = sc.refreshAlert (some text) := by
      simp [StationScreen.showBulletin, hhead, hx]
    rw [hshown, sc.refreshAlert_row24]

/-- R108, R109: a station that holds a BULLETIN alert has its parameter replaced in its place. -/
theorem StationScreen.takeBulletin_held (h : (sc.alerts.any fun x => x.alert = .bulletin) = true) :
    (sc.takeBulletin text n true).alertsLost = sc.alertsLost
    ∧ (sc.takeBulletin text n true).alerts = sc.alerts.map fun x => if x.alert = .bulletin then ⟨.bulletin, n⟩ else x := by
  rw [sc.takeBulletin_signed, StationScreen.joinAlert_held _ _ _ (by simpa using h)]
  simp [replaceParam]

/-- R108, R109: a station that holds none and has room has the alert at the tail. -/
theorem StationScreen.takeBulletin_room (h : (sc.alerts.any fun x => x.alert = .bulletin) = false)
    (hroom : sc.alerts.length < 4) :
    (sc.takeBulletin text n true).alerts = sc.alerts ++ [⟨.bulletin, n⟩]
    ∧ (sc.takeBulletin text n true).alertsLost = sc.alertsLost := by
  rw [sc.takeBulletin_signed, StationScreen.joinAlert_room _ _ _ (by simpa using h) (by simpa using hroom)]
  simp

/-- R108, R109: a station whose full queue holds none loses its second alert. -/
theorem StationScreen.takeBulletin_full (h : (sc.alerts.any fun x => x.alert = .bulletin) = false) {w x y z : Alert}
    (hfull : sc.alerts = [w, x, y, z]) :
    (sc.takeBulletin text n true).alerts = [w, y, z, ⟨.bulletin, n⟩]
    ∧ (sc.takeBulletin text n true).alertsLost = min (sc.alertsLost + 1) 255 := by
  rw [sc.takeBulletin_signed, StationScreen.joinAlert_full _ _ _ (by simpa using h) (by simp [hfull])]
  simp [hfull, bump255]

end atScreen

/-! ### A bulletin at the branch -/

/-- R109: a text that is empty or longer than 80 characters. -/
theorem State.takeBulletin_bad {text : Text} (s : State) (h : text.length = 0 ∨ 80 < text.length) :
    s.takeBulletin text = { s with composer := { s.composer with badBulletin := bump s.composer.badBulletin } } := by
  simp only [State.takeBulletin, h, if_true, State.onComposer]

/-- R109: the number the next bulletin is given. -/
def State.nextBulletin (s : State) : Nat := (s.composer.bulletinNumber + 1) % 65536

/-- R109: a text as the branch's latest bulletin, before any screen has changed. -/
def State.noteBulletin (text : Text) (s : State) : State :=
  { s with composer := { s.composer with bulletinText := some text, bulletinNumber := s.nextBulletin } }

/-- R109: the new text on every screen whose head is a BULLETIN alert, before any alert is given. -/
def State.showBulletin (text : Text) (s : State) : State :=
  (s.noteBulletin text).onScreens
    (stationNumbers.filter fun a => (s.screen a).alerts.head?.map Alert.alert = some .bulletin)
    (StationScreen.refreshAlert (some text))

section shown
variable (text : Text) (s : State)

theorem State.showBulletin_frame :
    ∃ v, s.showBulletin text = { s.noteBulletin text with composer := { (s.noteBulletin text).composer with screens := v } } :=
  State.onScreens_frame _ _ _

@[simp] theorem State.showBulletin_bulletinText : (s.showBulletin text).composer.bulletinText = some text :=
  State.onScreens_bulletinText _ _ _

@[simp] theorem State.showBulletin_station (a : Nat) : (s.showBulletin text).station a = s.station a :=
  State.onScreens_station _ _ _ _

theorem State.screen_showBulletin {a : Nat} (ha : isStation a = true) :
    (s.showBulletin text).screen a = (s.screen a).showBulletin text := by
  have hnoted : (s.noteBulletin text).screen a = s.screen a := rfl
  rw [State.showBulletin, State.screen_onScreens_filter _ _ _ ha, hnoted]
  simp only [StationScreen.showBulletin, decide_eq_true_eq]

end shown

section good
variable {text : Text} (s : State) (h1 : 1 ≤ text.length) (h80 : text.length ≤ 80)
include h1 h80

/-- R109: a good text becomes the latest bulletin and is shown; then every SIGNED station is given its alert. -/
theorem State.takeBulletin_good :
    s.takeBulletin text
      = (s.showBulletin text).onScreens (stationNumbers.filter fun a => (s.station a).state = .signed)
          (StationScreen.joinAlert (some text) ⟨.bulletin, s.nextBulletin⟩) := by
  have hgood : ¬ (text.length = 0 ∨ 80 < text.length) := by omega
  have hgiven : s.takeBulletin text
      = (s.showBulletin text).giveAlerts
          (stationNumbers.filter fun a => ((s.showBulletin text).station a).state = .signed) ⟨.bulletin, s.nextBulletin⟩ :=
    if_neg hgood
  rw [hgiven, State.giveAlerts_eq_onScreens, s.showBulletin_bulletinText]
  simp only [State.showBulletin_station]

/-- R109: a good text changes the screens, the latest bulletin and its number alone. -/
theorem State.takeBulletin_good_frame :
    ∃ v, s.takeBulletin text = { s with composer := { s.composer with
      bulletinText := some text, bulletinNumber := s.nextBulletin, screens := v } } := by
  obtain ⟨v, hv⟩ := s.showBulletin_frame text
  rw [s.takeBulletin_good h1 h80, hv]
  exact State.onScreens_frame _ _ _

/-- R109: what a good text makes of each station's screen. -/
theorem State.screen_takeBulletin {a : Nat} (ha : isStation a = true) :
    (s.takeBulletin text).screen a
      = (s.screen a).takeBulletin text s.nextBulletin ((s.station a).state = .signed) := by
  rw [s.takeBulletin_good h1 h80, State.screen_onScreens_filter _ _ _ ha, s.screen_showBulletin text ha]
  rfl

end good

/-- R109: a text handed over changes the composer alone. -/
theorem State.takeBulletin_frame (text : Text) (s : State) :
    s.takeBulletin text = { s with composer := (s.takeBulletin text).composer } := by
  apply composer_frame
  by_cases h : text.length = 0 ∨ 80 < text.length
  · exact ⟨_, s.takeBulletin_bad h⟩
  · obtain ⟨v, hv⟩ := s.takeBulletin_good_frame (text := text) (by omega) (by omega)
    exact ⟨_, hv⟩

/-! ### The command -/

/-- R24, R25: a block whose act changes the composer alone. -/
theorem State.classified_onComposer {s : State} {cls : BlockClass} {b : RxBlock} {act : RxBlock → State → State}
    (h : HeadBlock s cls b) (hact : ∀ x : State, act b x = { x with composer := (act b x).composer }) :
    s.classified cls act
      = { s with uplink := s.uplink.afterGood, composer := (act b { s with uplink := s.uplink.taken }).composer } := by
  rw [State.classified_head act h, hact]
  rfl

/-- BULLETIN: the text is taken once the uplink has taken its block. -/
theorem exec_bulletin_head {s : State} {b : RxBlock} (h : HeadBlock s .bulletin b) :
    exec .bulletin s = .next { s with
      uplink := s.uplink.afterGood, composer := (State.takeBulletin b.body { s with uplink := s.uplink.taken }).composer } :=
  congrArg Host.Outcome.next (State.classified_onComposer h (State.takeBulletin_frame b.body))

/-- R108, R109: a bulletin at the screen of one station, by the station's state and its alert queue before. -/
theorem StationScreen.takeBulletin_clauses (text : Text) (n : Nat) (st : StationState) (sc : StationScreen) :
    let new := sc.takeBulletin text n (st = .signed)
    let holds := sc.alerts.any fun x => x.alert = .bulletin
    (∀ r, 1 ≤ r → r ≤ 23 → new.row r = sc.row r)
    ∧ (∀ x rest, new.alerts = x :: rest → x.alert = .bulletin → new.row 24 = alertRow (some text) new.alerts)
    ∧ (st ≠ .signed → new.alerts = sc.alerts ∧ new.alertsLost = sc.alertsLost)
    ∧ (st = .signed → holds = true → new.alertsLost = sc.alertsLost
        ∧ new.alerts = sc.alerts.map fun x => if x.alert = .bulletin then ⟨.bulletin, n⟩ else x)
    ∧ (st = .signed → holds = false → sc.alerts.length < 4 →
        new.alerts = sc.alerts ++ [⟨.bulletin, n⟩] ∧ new.alertsLost = sc.alertsLost)
    ∧ (st = .signed → holds = false → ∀ w x y z, sc.alerts = [w, x, y, z] →
        new.alerts = [w, y, z, ⟨.bulletin, n⟩] ∧ new.alertsLost = min (sc.alertsLost + 1) 255) := by
  refine ⟨fun _ _ hr => sc.takeBulletin_row_other text n _ hr, fun _ _ => sc.takeBulletin_row24 text n _, fun hst => ?_,
    fun hst hholds => ?_, fun hst hholds hroom => ?_, fun hst hholds _ _ _ _ hfull => ?_⟩
  · simp [hst, sc.takeBulletin_unsigned]
  · simpa only [hst, decide_true] using sc.takeBulletin_held text n hholds
  · simpa only [hst, decide_true] using sc.takeBulletin_room text n hholds hroom
  · simpa only [hst, decide_true] using sc.takeBulletin_full text n hholds hfull

/-- Settles O38: the text at the branch by `State.takeBulletin_good_frame`, each screen by `State.screen_takeBulletin`. -/
theorem bulletinIsShown : Obligations.BulletinIsShown := by
  intro s b h
  let taken : State := { s with uplink := s.uplink.taken }
  refine ⟨_, exec_bulletin_head h, rfl, fun h1 h80 => ?good, fun hbad => ?bad⟩
  case bad => exact congrArg State.composer (taken.takeBulletin_bad hbad)
  case good =>
    obtain ⟨v, hv⟩ := taken.takeBulletin_good_frame h1 h80
    have hc : (taken.takeBulletin b.body).composer = { s.composer with
        bulletinText := some b.body, bulletinNumber := s.nextBulletin, screens := v } := congrArg State.composer hv
    have hnumber : (taken.takeBulletin b.body).composer.bulletinNumber = s.nextBulletin := by rw [hc]
    refine ⟨by rw [hc], hnumber, by rw [hc], by rw [hc], fun a ha => ?_⟩
    have hscreen : (taken.takeBulletin b.body).screen a
        = (s.screen a).takeBulletin b.body (taken.takeBulletin b.body).composer.bulletinNumber
            ((s.station a).state = .signed) := by
      rw [hnumber]
      exact taken.screen_takeBulletin h1 h80 ha
    have hclauses := StationScreen.takeBulletin_clauses b.body
      (taken.takeBulletin b.body).composer.bulletinNumber (s.station a).state (s.screen a)
    rw [← hscreen] at hclauses
    exact hclauses

end Sys2Proof.Machine
end

section
/-! SUPPORT. Going back: the withdrawal of EOD SEG blocks (R182) and an EOD NAK (R185). -/

namespace Sys2Proof.Machine

/-! ### EOD SEG blocks withdrawn -/

/-- R182: the queued blocks of the segments withdrawn are gone, and one of them being sent is broken off; nothing else changes. -/
theorem Uplink.withdrawSegments_eq (p : Nat → Bool) (u : Uplink) :
    u.withdrawSegments p = { u with
      data := u.data.filter fun x => !(x.cls = BlockClass.eodSeg && p x.tag)
      sending := u.sending.map fun x =>
        if x.block.cls = .eodSeg ∧ p x.block.tag = true then { x with broken := true } else x } := by
  unfold Uplink.withdrawSegments
  cases hsending : u.sending with
  | none => simp
  | some x =>
    by_cases hx : x.block.cls = .eodSeg ∧ p x.block.tag = true
    · simp [hx, Uplink.breakOff]
    · have hkept : (x.block.cls = .eodSeg && p x.block.tag) = false := by simpa using hx
      simp [hx, hkept]

/-- R24, R182: a withdrawal touches no counter, so the lost count may be reported before it. -/
theorem Uplink.reportLost_withdrawSegments (p : Nat → Bool) (n : Nat) (u : Uplink) :
    (u.withdrawSegments p).reportLost n = (u.reportLost n).withdrawSegments p := by
  simp only [Uplink.withdrawSegments_eq]
  rfl

/-- R182: going back to segment k keeps, in the data queue, the blocks of other classes and of the segments below k. -/
theorem Uplink.withdrawSegments_from_data (k : Nat) (u : Uplink) :
    (u.withdrawSegments fun j => k ≤ j).data = u.data.filter fun x => x.cls ≠ .eodSeg ∨ x.tag < k := by
  rw [Uplink.withdrawSegments_eq]
  refine List.filter_congr fun x _ => ?_
  rw [Bool.eq_iff_iff]
  simp

/-- R182: going back to segment k breaks off the block being sent when it carries segment k or one above. -/
theorem Uplink.withdrawSegments_from_sending (k : Nat) (u : Uplink) :
    (u.withdrawSegments fun j => k ≤ j).sending = u.sending.map fun x =>
      if x.block.cls = .eodSeg ∧ k ≤ x.block.tag then { x with broken := true } else x := by
  simp [Uplink.withdrawSegments_eq]

/-! ### The command -/

/-- R24, R25: a block whose act sets the day and changes the uplink by a change that commutes with the report of the lost count. -/
theorem State.classified_onUplink_day {s : State} {cls : BlockClass} {b : RxBlock} {act : RxBlock → State → State}
    {f : Uplink → Uplink} {d : Day} (h : HeadBlock s cls b)
    (hact : act b { s with uplink := s.uplink.taken } = { s with uplink := f s.uplink.taken, day := d })
    (hf : ∀ n u, (f u).reportLost n = f (u.reportLost n)) :
    s.classified cls act = { s with uplink := f s.uplink.afterGood, day := d } := by
  rw [State.classified_head act h, hact, State.onUplink, hf, Uplink.afterGood]

/-- R185: when an EOD NAK of segment k is taken. -/
def State.takesNak (k : Nat) (body : List Byte) (s : State) : Prop :=
  body = [] ∧ s.day.state = .sending ∧ s.day.base ≤ k ∧ k ≤ s.day.highest

/-- R182, R185: an EOD NAK that is taken sets the pointer back and withdraws the blocks from its segment on. -/
theorem State.takeNak_taken {k : Nat} {body : List Byte} {s : State} (h : s.takesNak k body) :
    s.takeNak k body = { s with
      uplink := s.uplink.withdrawSegments fun j => k ≤ j, day := { s.day with pointer := k } } := by
  obtain ⟨hbody, hstate, hbase, hhighest⟩ := h
  simp [State.takeNak, hbody, hstate, hbase, hhighest, State.goBack, State.onDay, State.onUplink]

/-- R185: any other EOD NAK is counted. -/
theorem State.takeNak_ignored {k : Nat} {body : List Byte} {s : State} (h : ¬ s.takesNak k body) :
    s.takeNak k body = { s with
      day := { s.day with counters := { s.day.counters with ignored := bump s.day.counters.ignored } } } := by
  have hrefused : ¬ (body = [] && s.day.state = .sending && s.day.base ≤ k && k ≤ s.day.highest) = true := by
    simpa [State.takesNak, and_assoc] using h
  exact if_neg hrefused

/-- EOD_NAK taken: the sender goes back, once the uplink has taken the block. -/
theorem exec_eodNak_taken {s : State} {b : RxBlock} (h : HeadBlock s .eodNak b) (hk : s.takesNak b.tag b.body) :
    exec .eodNak s = .next { s with
      uplink := s.uplink.afterGood.withdrawSegments fun j => b.tag ≤ j, day := { s.day with pointer := b.tag } } :=
  congrArg Host.Outcome.next <|
    State.classified_onUplink_day h (State.takeNak_taken (s := { s with uplink := s.uplink.taken }) hk)
      (Uplink.reportLost_withdrawSegments _)

/-- EOD_NAK discarded: counted, once the uplink has taken the block. -/
theorem exec_eodNak_ignored {s : State} {b : RxBlock} (h : HeadBlock s .eodNak b) (hk : ¬ s.takesNak b.tag b.body) :
    exec .eodNak s = .next { s with
      uplink := s.uplink.afterGood
      day := { s.day with counters := { s.day.counters with ignored := bump s.day.counters.ignored } } } :=
  congrArg Host.Outcome.next <|
    State.classified_onUplink_day (f := id) h (State.takeNak_ignored (s := { s with uplink := s.uplink.taken }) hk)
      fun _ _ => rfl

/-- Settles O46: the EOD NAK that is taken by `exec_eodNak_taken`, any other by `exec_eodNak_ignored`. -/
theorem eodNakGoesBack : Obligations.EodNakGoesBack := by
  intro s b h
  refine ⟨fun hgood => ⟨_, exec_eodNak_taken h hgood, rfl, ?frame, ?data, ?sending⟩, fun hbad => exec_eodNak_ignored h hbad⟩
  case frame => rw [Uplink.withdrawSegments_eq]
  case data => rw [Uplink.withdrawSegments_from_data, Uplink.afterGood_data]
  case sending => rw [Uplink.withdrawSegments_from_sending, Uplink.afterGood_sending]

end Sys2Proof.Machine
end
